-- ==== Sys2Proof/Word.lean ====
section
/-! DEFINITION. The word types of the HT3216: bytes, 64-byte blocks, the numbers of channels, banks, rows, granules,
spares, rings and slots, and the content of one granule. -/

namespace Sys2Proof

/-- One byte. -/
abbrev Byte := BitVec 8

/-- The 64 data bytes of a granule, or the 64 bytes of a request record: byte n is bits 8n+7 to 8n (R203). -/
abbrev Block := BitVec 512

/-- Channel 0 to 15 (R1). -/
abbrev ChanNo := Fin 16

/-- Global bank 0 to 255 (R1). -/
abbrev BankNo := Fin 256

/-- Logical row, or home row, 0 to 65,535 of a bank (R1). -/
abbrev RowNo := Fin 65536

/-- Granule 0 to 31 of a row (R1). -/
abbrev GranNo := Fin 32

/-- Spare row index 0 to 31 of a bank (R1). -/
abbrev SpareNo := Fin 32

/-- Ring id 0 to 31 of a request or completion ring (R146). -/
abbrev RingId := Fin 32

/-- Tracker slot number 0 to 255 (R126). -/
abbrev SlotNo := Fin 256

/-- Slot tag 0 to 255 (R126, R129). -/
abbrev SlotTag := Fin 256

/-- What a granule that an operation has written holds (R17): a VALID granule holds data, a TAINTED granule holds
zeros. -/
inductive Granule where
  | valid (data : Block)
  | tainted
  deriving DecidableEq, Repr, Inhabited

/-- The outcome a read of a granule meets, decided by the array and not by the device (R18). -/
inductive ReadOutcome where
  | clean
  | corrected
  | uncorrectable
  deriving DecidableEq, Repr, Inhabited

end Sys2Proof
end

