-- ==== Sys2Proof/Syntax.lean ====
section
/-! DEFINITION. The commands of the HT3216: one constructor of `Instr` for each row of spec/opcode_table.json. -/

namespace Sys2Proof

/-- One part of the host's answer to a host read (R198): bytes at an offset of the read, or a completion error. -/
inductive AnswerPart where
  | data (offset : Nat) (bytes : List Byte)
  | completionError
  deriving DecidableEq, Repr

/-- A block that receives the failure signal of a channel and acts on it in its own state (R39; the tracker by R134). -/
inductive SignalTarget where
  | poolControl
  | migrationController
  | healthMonitor
  | tracker
  deriving DecidableEq, Repr

/-- The commands. An operand `bank` of an operation row names the bank whose operation in progress completes its
attempt; the outcomes are what that attempt's reads met, which the array decides (R18). -/
inductive Instr where
  /-- POWER_ON_RESET (R200). -/
  | powerOnReset
  /-- INITIALISATION_END (R200). -/
  | initialisationEnd
  /-- ENABLE_SET (R201): CONTROL is written with ENABLE 1. -/
  | enableSet
  /-- ENABLE_CLEAR (R202): CONTROL is written with ENABLE 0. -/
  | enableClear
  /-- FUNCTION_LEVEL_RESET (R202). -/
  | functionLevelReset
  /-- LINK_DOWN (R202). -/
  | linkDown
  /-- REGISTER_WRITE (R195): a write of `size` bytes at byte `offset` of the register window. -/
  | registerWrite (offset size : Nat) (value : BitVec 64)
  /-- RQ_TAIL_WRITE (R150). -/
  | rqTailWrite (ring : RingId) (value : BitVec 32)
  /-- CQ_HEAD_WRITE (R152). -/
  | cqHeadWrite (ring : RingId) (value : BitVec 32)
  /-- EQ_HEAD_WRITE (R152). -/
  | eqHeadWrite (value : BitVec 32)
  /-- HOST_READ_ANSWER (R198): a part of the answer to the host read numbered `read`. -/
  | hostReadAnswer (read : Nat) (part : AnswerPart)
  /-- HOST_READ_TIMEOUT (R198): the 50 ms timer of the sent host read numbered `read` expires. -/
  | hostReadTimeout (read : Nat)
  /-- FETCH_START (R157). -/
  | fetchStart
  /-- ISSUE_GRANULE_OPERATION (R133). -/
  | issueGranuleOperation (slot : SlotNo)
  /-- READ_OPERATION (R21): `outcome` is that of the operation's read, `source` that of the source read which follows
  a target failure (R73). -/
  | readOperation (bank : BankNo) (outcome source : ReadOutcome)
  /-- CHECK_OPERATION (R22), outcomes as for READ_OPERATION. -/
  | checkOperation (bank : BankNo) (outcome source : ReadOutcome)
  /-- WRITE_OPERATION (R23). -/
  | writeOperation (bank : BankNo)
  /-- MERGE_OPERATION (R24), outcomes as for READ_OPERATION. -/
  | mergeOperation (bank : BankNo) (outcome source : ReadOutcome)
  /-- MARK_OPERATION (R25). -/
  | markOperation (bank : BankNo)
  /-- STEP_OPERATION (R66): the outcomes of the source read and of the verify read. -/
  | stepOperation (bank : BankNo) (source verify : ReadOutcome)
  /-- COMMAND_ERROR (R35): the attempt in progress at `bank` meets a DRAM command error. -/
  | commandError (bank : BankNo)
  /-- CHANNEL_FAILURE_SIGNAL (R39). -/
  | channelFailureSignal (target : SignalTarget) (channel : ChanNo)
  /-- OUTCOME_REPORT (R85): the oldest report on its way from `bank` reaches the health monitor. -/
  | outcomeReport (bank : BankNo)
  /-- MIGRATION_START (R64). -/
  | migrationStart
  /-- SCRUB_TIMER_EXPIRY (R98). -/
  | scrubTimerExpiry
  /-- FORMAT_TURN (R12). -/
  | formatTurn
  /-- QUEUE_CREATE (R173). -/
  | queueCreate
  /-- QUEUE_DELETE (R175). -/
  | queueDelete
  /-- EVENT_QUEUE_SET (R178). -/
  | eventQueueSet
  /-- SET_PARAMETERS (R179). -/
  | setParameters
  /-- POOL_FORMAT (R9). -/
  | poolFormat
  /-- MAP_READ (R50). -/
  | mapRead
  /-- MAP_LOAD (R52). -/
  | mapLoad
  /-- HEALTH_READ (R95). -/
  | healthRead
  /-- HEALTH_CLEAR (R96). -/
  | healthClear
  /-- MIGRATE_ROW (R183). -/
  | migrateRow
  /-- STATUS_READ (R184). -/
  | statusRead
  /-- LINK_UP (R202). -/
  | linkUp
  deriving DecidableEq, Repr

end Sys2Proof
end

