-- ==== Sys2Proof/Config.lean ====
section
/-! DEFINITION. What an HT3216 fixes: capacities that several rules share, and the free values, which have no body, so
that nothing can be proved of the value they take. -/

namespace Sys2Proof

/-- Places of the host port's read table (R198). -/
def Config.readPlaces : Nat := 128

/-- Greatest length of one host read (R198). -/
def Config.maxRead : Nat := 512

/-- General places of a bank's operation queue (R28). -/
def Config.generalPlaces : Nat := 30

/-- Staging places of a WRITE slot (R136). -/
def Config.stagingPlaces : Nat := 16

/-- Tracker slots (R126). -/
def Config.slotCount : Nat := 256

/-- Capacity of the migration queue (R57). -/
def Config.queueCapacity : Nat := 16

/-- Capacity of the health table (R83). -/
def Config.healthCapacity : Nat := 512

/-- Capacity of the pending event set (R189). -/
def Config.eventCapacity : Nat := 64

/-- Retries of one operation before its channel fails (R35). -/
def Config.maxRetries : Nat := 8

/-- Attempts of one migration (R60, R75). -/
def Config.maxAttempts : Nat := 3

/-- FREE VALUE: what a read that is not UNCORRECTABLE finds in a granule that no operation has written since
power-on. R17 leaves its data and its state undefined. The argument is State's counter of free values, so that each
read may find another content. UNVERIFIED, safe: nothing constrains it. Log entry 4. -/
opaque Config.undefinedGranule : Nat → Granule

/-- FREE VALUE: the revision field of IDENT, bits 23:16, to which section 12.10 gives no number. UNVERIFIED, safe.
Log entry 12. -/
opaque Config.revision : BitVec 8

end Sys2Proof
end

