-- ==== Sys2Proof/Machine/State.lean ====
section
/-! DEFINITION. The state of the HT3216 as plain data: what each of the twelve blocks holds, the commands that wait, and
the value of every field after power-on reset. `HostSide` holds the blocks between the link and the banks (host port,
queue engine, tracker, configuration unit, event unit); `PoolSide` holds the pool and the blocks that keep it. -/

namespace Sys2Proof.Machine

/-! ## Names and codes -/

/-- Pool states (R5). -/
inductive PoolState where
  | offline | formatting | online | degraded
  deriving DecidableEq, Repr

/-- Interleave strides (R2). -/
inductive Stride where
  | s256 | s512 | s1024 | s2048
  deriving DecidableEq, Repr

/-- Channel states (R34). -/
inductive ChannelState where
  | active | failed
  deriving DecidableEq, Repr

/-- Bank unit states (R31). -/
inductive BankState where
  | idle | working | retrying | closed
  deriving DecidableEq, Repr

/-- Results of a granule operation (R20). -/
inductive OpResult where
  | ok | corrected | tainted | channelFailed
  deriving DecidableEq, Repr

/-- Reports of a STEP (R68). -/
inductive StepReport where
  | advanced | targetFailed | void | channelFailed
  deriving DecidableEq, Repr

/-- Data request kinds (R104). -/
inductive DataKind where
  | read | write | copy | fill | verify
  deriving DecidableEq, Repr

/-- Completion statuses (12.9). -/
inductive Status where
  | ok | tainted | channelFailed | hostAccess | listMismatch | aborted | poolNotReady | badKind | badRange | overlap
  | badList | duplicateId | badQueue | inUse | wrongState | mapInvalid | queueFull | alreadyPending | badParameter
  deriving DecidableEq, Repr

/-- Ring kinds of a QUEUE_FAULT (R187). -/
inductive RingKind where
  | request | completion | event
  deriving DecidableEq, Repr

/-- Reasons of a QUEUE_FAULT (R187). -/
inductive FaultReason where
  | fetchFailed | postFailed | positionInvalid
  deriving DecidableEq, Repr

/-- Reasons of a MIGRATION_FAILED (R187). -/
inductive MigReason where
  | noSpare | targetLimit | channelFailed
  deriving DecidableEq, Repr

/-- Outcomes that the health monitor is told of (R32). -/
inductive ErrOutcome where
  | corrected | uncorrectable
  deriving DecidableEq, Repr

/-! ## Host port (chapter 11) -/

/-- The requester of a host read, and what the read's bytes are to it (R198). -/
inductive Owner where
  /-- A record fetch; the read's first byte is the first byte of the fetch's record number `first`. -/
  | fetch (first : Nat)
  /-- The buffer list of a slot, from byte `offset` of the list. -/
  | slotList (slot : SlotNo) (offset : Nat)
  /-- WRITE data of granule `gran` of a slot's range, from byte `offset` of that granule's request bytes. -/
  | slotData (slot : SlotNo) (gran offset : Nat)
  /-- The image of a MAP LOAD, from byte `offset`. -/
  | image (offset : Nat)
  deriving DecidableEq, Repr

/-- A host read that a block has asked for (R198). `id` tells reads apart, so that an answer is matched to its own
read (log entry 10). -/
structure HostRead where
  id : Nat
  owner : Owner
  addr : Nat
  len : Nat
  deriving DecidableEq, Repr

/-- One read place: a host read sent on the link and not finished, whether its requester has abandoned it, and the
bytes of its answer received so far (R198). -/
structure SentRead where
  read : HostRead
  abandoned : Bool
  bytes : List (Option Byte)
  deriving DecidableEq, Repr

/-- What the device sends on the link (R198, R199), in order. -/
inductive LinkMsg where
  | read (id addr len : Nat)
  | write (addr : Nat) (bytes : List Byte)
  | interrupt (vector : Nat)
  deriving DecidableEq, Repr

/-- The host port (R196, R198, R202). The sizes register holds the named bits of CONFIG SIZES. -/
structure HostPort where
  ready : Bool
  enable : Bool
  configError : Bool
  linkUp : Bool
  windowLow : BitVec 64
  windowHigh : BitVec 64
  rqBase : BitVec 64
  cqBase : BitVec 64
  sizes : BitVec 64
  sent : List SentRead
  waiting : List HostRead
  nextRead : Nat
  deriving DecidableEq, Repr

/-! ## Queue engine (chapter 8) -/

/-- Request ring states (R148). -/
inductive RqState where
  | absent | active | draining | faulted
  deriving DecidableEq, Repr

/-- Completion and event ring states (R149). -/
inductive CqState where
  | absent | active | faulted
  deriving DecidableEq, Repr

/-- Request ring descriptor (R147). -/
structure Rq where
  state : RqState
  base : Nat
  size : Nat
  tail : Nat
  head : Nat
  cq : RingId
  burst : Nat
  inFlight : Bool
  deriving DecidableEq, Repr

/-- Completion ring descriptor (R147). -/
structure Cq where
  state : CqState
  base : Nat
  size : Nat
  head : Nat
  tail : Nat
  lap : Bool
  unconsumed : Nat
  reserved : Nat
  bound : Nat
  vector : Nat
  intEn : Bool
  armed : Bool
  deriving DecidableEq, Repr

/-- Event ring descriptor (R147). -/
structure EvRing where
  state : CqState
  base : Nat
  size : Nat
  head : Nat
  tail : Nat
  lap : Bool
  unconsumed : Nat
  vector : Nat
  intEn : Bool
  armed : Bool
  deriving DecidableEq, Repr

/-- The fetch in flight (R157, R158): its ring, how many of its records have been handed to intake, and the others in
ring order, each present once its 64 bytes have arrived. -/
structure Fetch where
  ring : RingId
  handed : Nat
  recs : List (Option Block)
  deriving DecidableEq, Repr

/-- The queue engine (R147, R155). -/
structure QueueEngine where
  rqs : Vector Rq 32
  cqs : Vector Cq 32
  eq : EvRing
  fetch : Option Fetch
  position : RingId
  deriving DecidableEq, Repr

/-! ## Granule operations (chapter 2) -/

/-- Kinds of granule operation with what each carries (R20). -/
inductive OpKind where
  | read
  | check
  | write (data : Block)
  | merge (mask : BitVec 8) (data : Block)
  | mark
  | step
  deriving DecidableEq, Repr

/-- Issuers of granule operations (R20); a tracker slot issues with its number and tag (R129). -/
inductive Issuer where
  | slot (num : SlotNo) (tag : SlotTag)
  | format
  | scrub
  | migration
  deriving DecidableEq, Repr

/-- A granule operation (R20). The granule of a STEP is chosen at its taking (R65): the field is then not used. -/
structure BankOp where
  kind : OpKind
  issuer : Issuer
  bank : BankNo
  row : RowNo
  gran : GranNo
  deriving DecidableEq, Repr

/-! ## Request tracker (chapter 7) -/

/-- The record fields of a data request (R104). -/
structure DataReq where
  kind : DataKind
  fence : Bool
  useList : Bool
  id : BitVec 16
  len : Nat
  a : Nat
  b : Nat
  host : Nat
  listCount : Nat
  pattern : BitVec 64
  deriving DecidableEq, Repr

/-- A buffer list entry (R107). -/
structure ListEntry where
  host : Nat
  len : Nat
  deriving DecidableEq, Repr

/-- Bytes that have arrived at an offset of a transfer. -/
structure Piece where
  offset : Nat
  bytes : List Byte
  deriving DecidableEq, Repr

/-- A staging place of a WRITE slot (R136): the granule of the range it is for, and the bytes arrived. -/
structure Staged where
  gran : Nat
  pieces : List Piece
  deriving DecidableEq, Repr

/-- The result of a COPY source READ that feeds destination granules not yet decided (R135). -/
structure Kept where
  gran : Nat
  result : OpResult
  data : Block
  feeds : List Nat
  deriving DecidableEq, Repr

/-- What a COPY slot holds in addition (R126, R135): its source cursor, kept source results, the ready list in
ascending order of destination granule, and how many destination granules have been issued or found not to be. -/
structure CopyWork where
  source : Nat
  kept : List Kept
  ready : List (Nat × OpKind)
  done : Nat
  deriving DecidableEq, Repr

/-- States of an occupied slot (R127). -/
inductive SlotState where
  | loadingList | fenced | issuing | awaiting | completing
  deriving DecidableEq, Repr

/-- An occupied slot (R126). -/
structure Slot where
  num : SlotNo
  tag : SlotTag
  ring : RingId
  req : DataReq
  state : SlotState
  listPieces : List Piece
  list : List ListEntry
  next : Option Nat
  askNext : Nat
  staging : List Staged
  held : Option BankOp
  issued : Nat
  ended : Nat
  done : Nat
  corrected : Nat
  tainted : Nat
  failAddr : Option Nat
  channelFailed : Bool
  hostAccess : Bool
  listMismatch : Bool
  aborted : Bool
  copy : CopyWork
  deriving DecidableEq, Repr

/-- The request tracker (R126 to R129). The occupied slots stand in intake order, oldest first (R128); a slot number
that none of them has is FREE. -/
structure Tracker where
  slots : List Slot
  tags : Vector SlotTag 256
  outstanding : Vector Nat 256
  opsOut : Nat
  reserved : Nat
  deriving DecidableEq, Repr

/-! ## Configuration unit (chapter 9) -/

/-- A configuration command with its parameter area (12.2). Fields are as wide as the record has them (R204). -/
inductive ConfigCmd where
  | queueCreate (kind id size base : Nat) (byte16 byte17 : Byte)
  | queueDelete (kind id : Nat) (abort : Bool)
  | eventQueueSet (size base vector : Nat) (intEn : Bool)
  | setParameters (interval threshold : Nat) (enables : BitVec 8)
  | poolFormat (stride : Nat)
  | mapRead (capacity host : Nat)
  | mapLoad (count host : Nat)
  | healthRead (capacity host : Nat)
  | healthClear
  | migrateRow (bank row : Nat)
  | statusRead (host : Nat)
  deriving DecidableEq, Repr

/-- The configuration unit (R170). In EXECUTING, `image` holds the pieces of a MAP LOAD image being read (R52); in
DRAIN_WAIT, the ring and the number of slots counted at the abort (R176). -/
inductive ConfigUnit where
  | idle
  | executing (id : BitVec 16) (cmd : ConfigCmd) (image : Option (List Piece))
  | drainWait (id : BitVec 16) (ring : RingId) (count : Nat)
  deriving DecidableEq, Repr

/-! ## Event unit (chapter 10) -/

/-- An event with its key fields and other fields (R187). -/
inductive Event where
  | formatDone (final : PoolState)
  | channelFailed (channel : ChanNo)
  | migrationDone (bank : BankNo) (row : RowNo) (spare : SpareNo)
  | migrationFailed (bank : BankNo) (row : RowNo) (reason : MigReason)
  | taintFound (bank : BankNo) (row : RowNo) (gran : GranNo)
  | healthTableFull (bank : BankNo) (row : RowNo)
  | scrubPassDone (pass : BitVec 32)
  | queueFault (kind : RingKind) (id : RingId) (reason : FaultReason)
  deriving DecidableEq, Repr

/-- An entry of the pending event set (R189). -/
structure EventEntry where
  event : Event
  count : Nat
  deriving DecidableEq, Repr

/-- The event unit (R188, R189). Bit n of the enables enables the kind of code n + 1 (12.2). -/
structure EventUnit where
  entries : List EventEntry
  overflow : Bool
  enables : BitVec 8
  deriving DecidableEq, Repr

/-- The host side of the device. `out` is what has been sent on the link, oldest first (log entry 11). -/
structure HostSide where
  port : HostPort
  out : List LinkMsg
  engine : QueueEngine
  tracker : Tracker
  config : ConfigUnit
  events : EventUnit
  deriving DecidableEq, Repr

/-! ## Pool control (chapter 1) -/

/-- One bank position of the format cursor (R11). -/
structure FormatBank where
  row : RowNo
  issued : Nat
  ended : Nat
  done : Bool
  deriving DecidableEq, Repr

/-- The format cursor (R11). -/
structure FormatCursor where
  banks : Vector FormatBank 256
  turn : BankNo
  deriving DecidableEq, Repr

/-- Pool control (R2, R5, R11). -/
structure PoolControl where
  state : PoolState
  stride : Stride
  cursor : Option FormatCursor
  deriving DecidableEq, Repr

/-! ## Bank units (chapters 2 and 4) -/

/-- A bank's migration record (R61); source `none` is HOME. -/
structure MigRecord where
  row : RowNo
  source : Option SpareNo
  target : SpareNo
  cursor : Nat
  deriving DecidableEq, Repr

/-- The operation in progress with what was read at its taking (R26, R69): the place the row map gave (`none` is the
home row) and, on a migrating row, the target spare and the cursor. -/
structure InProgress where
  op : BankOp
  source : Option SpareNo
  mig : Option (SpareNo × Nat)
  deriving DecidableEq, Repr

/-- A bank unit (R28, R29, R31, R61) with the retry count its channel controller keeps for it (R34). -/
structure Bank where
  state : BankState
  waiting : List BankOp
  cur : Option InProgress
  openRow : Option RowNo
  record : Option MigRecord
  retry : Nat
  deriving DecidableEq, Repr

/-! ## Row map, migration, health, scrub (chapters 3 to 5) -/

/-- A spare record (R41). -/
inductive Spare where
  | free
  | target (row : RowNo)
  | active (row : RowNo)
  | retired
  deriving DecidableEq, Repr

/-- An OCCUPIED migration slot (R60); source `none` is HOME. -/
structure MigSlot where
  bank : BankNo
  row : RowNo
  source : Option SpareNo
  target : SpareNo
  cursor : Nat
  attempt : Nat
  deriving DecidableEq, Repr

/-- The migration controller (R57, R60). -/
structure Migration where
  queue : List (BankNo × RowNo)
  slots : Vector (Option MigSlot) 4
  deriving DecidableEq, Repr

/-- States of a health entry (R84). -/
inductive HealthState where
  | watch | candidate | migrating | blocked
  deriving DecidableEq, Repr

/-- A health entry (R83). -/
structure HealthEntry where
  bank : BankNo
  row : RowNo
  count : Nat
  state : HealthState
  firstPass : BitVec 32
  last : ErrOutcome
  queued : Bool
  deriving DecidableEq, Repr

/-- The health monitor (R83, R84): the table in insertion order, and T. -/
structure Health where
  table : List HealthEntry
  threshold : Nat
  deriving DecidableEq, Repr

/-- An outcome report on its way to the health monitor (R32). -/
structure Report where
  bank : BankNo
  row : RowNo
  outcome : ErrOutcome
  deriving DecidableEq, Repr

/-- The scrubber's row in progress (R97). -/
structure ScrubRow where
  bank : BankNo
  row : RowNo
  next : Nat
  deriving DecidableEq, Repr

/-- The scrubber (R97). -/
structure Scrub where
  interval : Nat
  running : Bool
  row : RowNo
  bank : BankNo
  pass : BitVec 32
  cur : Option ScrubRow
  owed : Bool
  deriving DecidableEq, Repr

/-- The content of the DRAM as (key, granule) pairs (`granKey`). -/
abbrev Memory := List (Nat × Granule)

/-- The pool side of the device. `mem` lists the granules that an operation has written since power-on, by key, keys
strictly rising; a granule not listed is undefined (R17, log entry 4). -/
structure PoolSide where
  control : PoolControl
  banks : Vector Bank 256
  channels : Vector ChannelState 16
  signals : List (SignalTarget × ChanNo)
  reports : List Report
  spares : Vector (Vector Spare 32) 256
  migration : Migration
  health : Health
  scrub : Scrub
  mem : Memory
  freeCount : Nat
  deriving DecidableEq, Repr

/-- The state: the two sides of the device and the commands that wait, first in, first out. -/
structure State where
  host : HostSide
  pool : PoolSide
  pending : List Instr
  deriving DecidableEq, Repr

/-- Faults: none. No event of the manual ends the machine; a faulted ring, a failed channel and a refused request are
states and records of the block. -/
inductive Fault where
  deriving DecidableEq, Repr

/-- Refusals. -/
inductive Refusal where
  /-- Raised by an arm of `exec` whose command has no meaning yet; safe: the run stops. No arm answers it now. -/
  | notModelled (mnemonic : String)
  deriving DecidableEq, Repr

/-! ## Power-on values -/

/-- The host port after power-on reset (R200, R202); the link is up (log entry 14). -/
def HostPort.reset : HostPort where
  ready := false
  enable := false
  configError := false
  linkUp := true
  windowLow := 0
  windowHigh := 0
  rqBase := 0
  cqBase := 0
  sizes := 0
  sent := []
  waiting := []
  nextRead := 0

/-- The descriptor of an ABSENT request ring (R147). -/
def Rq.absent : Rq :=
  { state := .absent, base := 0, size := 0, tail := 0, head := 0, cq := 0, burst := 0, inFlight := false }

/-- The descriptor of an ABSENT completion ring (R147). -/
def Cq.absent : Cq :=
  { state := .absent, base := 0, size := 0, head := 0, tail := 0, lap := false, unconsumed := 0, reserved := 0,
    bound := 0, vector := 0, intEn := false, armed := false }

/-- The descriptor of the ABSENT event ring (R147). -/
def EvRing.absent : EvRing :=
  { state := .absent, base := 0, size := 0, head := 0, tail := 0, lap := false, unconsumed := 0, vector := 0,
    intEn := false, armed := false }

/-- The queue engine after power-on reset and after port reset (R169). -/
def QueueEngine.reset : QueueEngine where
  rqs := Vector.replicate 32 Rq.absent
  cqs := Vector.replicate 32 Cq.absent
  eq := EvRing.absent
  fetch := none
  position := 0

/-- The tracker after power-on reset (R126). -/
def Tracker.reset : Tracker where
  slots := []
  tags := Vector.replicate 256 0
  outstanding := Vector.replicate 256 0
  opsOut := 0
  reserved := 0

/-- The event unit after power-on reset (R194): every kind enabled but SCRUB_PASS_DONE. -/
def EventUnit.reset : EventUnit := { entries := [], overflow := false, enables := 0xBF }

/-- The host side after power-on reset. -/
def HostSide.reset : HostSide where
  port := HostPort.reset
  out := []
  engine := QueueEngine.reset
  tracker := Tracker.reset
  config := .idle
  events := EventUnit.reset

/-- A bank unit after power-on reset (R40). -/
def Bank.reset : Bank :=
  { state := .idle, waiting := [], cur := none, openRow := none, record := none, retry := 0 }

/-- The scrubber after power-on reset (R97). -/
def Scrub.reset : Scrub :=
  { interval := 0, running := false, row := 0, bank := 0, pass := 0, cur := none, owed := false }

/-- The pool side after power-on reset (R2, R5, R34, R40, R41, R57, R60, R83, R84, R97). -/
def PoolSide.reset : PoolSide where
  control := { state := .offline, stride := .s256, cursor := none }
  banks := Vector.replicate 256 Bank.reset
  channels := Vector.replicate 16 .active
  signals := []
  reports := []
  spares := Vector.replicate 256 (Vector.replicate 32 .free)
  migration := { queue := [], slots := Vector.replicate 4 none }
  health := { table := [], threshold := 4 }
  scrub := Scrub.reset
  mem := []
  freeCount := 0

/-- The machine right after power-on reset (R200): READY is 0 until INITIALISATION_END. -/
def State.reset : State where
  host := HostSide.reset
  pool := PoolSide.reset
  pending := []

end Sys2Proof.Machine
end

