-- ==== Sys2Proof/Machine/Operands.lean ====
section
/-! DEFINITION. Operand forms: the byte order (R203), the pool address map (R3, R4), the granules of a range (R108), the
layout of request bytes over host buffers (R106), and the reading of the records the device takes from host memory
(chapter 12). -/

namespace Sys2Proof.Machine

/-! ## Byte order (R203) -/

/-- The number that bytes hold, the byte at the lowest offset least significant (R203). -/
def bytesToNat : List Byte → Nat
  | [] => 0
  | b :: rest => b.toNat + 256 * bytesToNat rest

/-- The low `n` bytes of a number, least significant first (R203). -/
def natToBytes : Nat → Nat → List Byte
  | 0, _ => []
  | n + 1, v => BitVec.ofNat 8 v :: natToBytes n (v / 256)

/-- 64 bytes as a block; fewer bytes fill its low end. -/
def blockOfBytes (bytes : List Byte) : Block := BitVec.ofNat 512 (bytesToNat bytes)

/-- The field of `n` bytes at byte `off` of a record (R203). -/
def field (r : Block) (off n : Nat) : Nat := (r.toNat >>> (8 * off)) % 2 ^ (8 * n)

/-- Bytes `off` to `off + n - 1` of a block. -/
def blockBytes (r : Block) (off n : Nat) : List Byte := natToBytes n (r.toNat >>> (8 * off))

/-- 8-byte word `w`, 0 to 7, of a granule's data (R20). -/
def blockWord (r : Block) (w : Nat) : BitVec 64 := r.extractLsb' (64 * w) 64

/-- A granule's data from its eight words. -/
def blockOfWords (f : Nat → BitVec 64) : Block :=
  f 7 ++ f 6 ++ f 5 ++ f 4 ++ f 3 ++ f 2 ++ f 1 ++ f 0

/-- The merge of R24: a word whose mask flag is set comes from `new`, the others from `old`. -/
def mergeBlock (mask : BitVec 8) (new old : Block) : Block :=
  blockOfWords fun w => if mask.getLsbD w then blockWord new w else blockWord old w

/-! ## The pool address map (R1 to R4) -/

/-- A stride in bytes (R2). -/
def Stride.bytes : Stride → Nat
  | .s256 => 256
  | .s512 => 512
  | .s1024 => 1024
  | .s2048 => 2048

/-- The stride of a number of bytes, if it is one (R2, R9). -/
def Stride.ofBytes? (n : Nat) : Option Stride :=
  if n = 256 then some .s256
  else if n = 512 then some .s512
  else if n = 1024 then some .s1024
  else if n = 2048 then some .s2048
  else none

/-- The channel of a global bank (R1). -/
def bankChannel (b : BankNo) : ChanNo := Fin.ofNat 16 (b.val / 16)

/-- The 16 global banks of a channel (R1). -/
def channelBanks (c : ChanNo) : List BankNo := (List.range 16).map fun i => Fin.ofNat 256 (c.val * 16 + i)

/-- Global bank of a pool address: steps 1 to 4 of R3. -/
def Stride.bankOf (s : Stride) (a : Nat) : BankNo :=
  let k := a / s.bytes
  Fin.ofNat 256 (k % 16 * 16 + k / 16 % 16)

/-- Bank-local offset of a pool address: steps 5 and 6 of R3. -/
def Stride.offsetOf (s : Stride) (a : Nat) : Nat := a / s.bytes / 256 * s.bytes + a % s.bytes

/-- Logical row of a pool address: step 7 of R3. -/
def Stride.rowOf (s : Stride) (a : Nat) : RowNo := Fin.ofNat 65536 (s.offsetOf a / 2048)

/-- Granule of a pool address: steps 8 and 9 of R3. -/
def Stride.granOf (s : Stride) (a : Nat) : GranNo := Fin.ofNat 32 (s.offsetOf a % 2048 / 64)

/-- Byte in granule of a pool address: step 10 of R3. -/
def Stride.byteOf (s : Stride) (a : Nat) : Nat := s.offsetOf a % 2048 % 64

/-- The reverse mapping of R4, for byte `n` of a granule. -/
def Stride.address (s : Stride) (b : BankNo) (r : RowNo) (g : GranNo) (n : Nat) : Nat :=
  let offset := r.val * 2048 + g.val * 64 + n
  let k := offset / s.bytes * 256 + b.val % 16 * 16 + b.val / 16
  k * s.bytes + offset % s.bytes

/-- The key of the granule at a physical row of a bank in `PoolSide.mem`: home rows at 0 to 65,535, spare rows after
them. -/
def granKey (b : BankNo) (row : RowNo) (place : Option SpareNo) (g : GranNo) : Nat :=
  (b.val * 65568 + (match place with | none => row.val | some i => 65536 + i.val)) * 32 + g.val

/-! ## The granules of a range (R108) -/

/-- How many granules the range of `len` bytes from `p` touches (R108). -/
def touchedCount (p len : Nat) : Nat := (p + len - 1) / 64 - p / 64 + 1

/-- The pool address of the first byte of touched granule `k`. -/
def touchedBase (p k : Nat) : Nat := (p / 64 + k) * 64

/-- The address of touched granule `k` (R108): its lowest pool address in the range. -/
def touchedLo (p k : Nat) : Nat := max p (touchedBase p k)

/-- The end of the bytes of touched granule `k` in the range. -/
def touchedHi (p len k : Nat) : Nat := min (p + len) (touchedBase p k + 64)

/-- Whether touched granule `k` is whole (R108). -/
def touchedWhole (p len k : Nat) : Bool := decide (touchedHi p len k - touchedLo p k = 64)

/-- The word mask of touched granule `k` (R108): a flag for each word in the range. -/
def touchedMask (p len k : Nat) : BitVec 8 :=
  let lo := (touchedLo p k - touchedBase p k) / 8
  let hi := (touchedHi p len k - touchedBase p k) / 8
  BitVec.ofNat 8 (2 ^ hi - 2 ^ lo)

/-- The request bytes of a granule laid at their place in the granule: `bytes` start at byte `off`. -/
def placedBytes (off : Nat) (bytes : List Byte) : Block := BitVec.ofNat 512 (bytesToNat bytes <<< (8 * off))

/-- The fill pattern in each of the eight words (R118). -/
def patternBlock (pattern : BitVec 64) : Block := blockOfWords fun _ => pattern

/-! ## Request bytes over host buffers (R106) -/

/-- The buffers that `len` request bytes from request byte `off` lie in, laid over list entries in order (R106). -/
def listSegments : List ListEntry → Nat → Nat → List (Nat × Nat)
  | [], _, _ => []
  | e :: es, off, len =>
    if len = 0 then []
    else if off < e.len then
      (e.host + off, min len (e.len - off)) :: listSegments es 0 (len - min len (e.len - off))
    else listSegments es (off - e.len) len

/-- The host buffers of `len` request bytes from request byte `off` (R106): address and length of each. -/
def DataReq.segments (q : DataReq) (list : List ListEntry) (off len : Nat) : List (Nat × Nat) :=
  if q.useList then listSegments list off len else [(q.host + off, len)]

/-- A transfer of `len` bytes at `addr` split into host reads of at most 512 bytes that do not cross a 4 KiB boundary
(R198), each with its offset from `off`; each read is as long as it can be (log entry 9). The first argument bounds
the number of reads. -/
def splitReads : Nat → Nat → Nat → Nat → List (Nat × Nat × Nat)
  | 0, _, _, _ => []
  | fuel + 1, addr, off, len =>
    if len = 0 then []
    else
      let n := min len (min Config.maxRead (4096 - addr % 4096))
      (addr, off, n) :: splitReads fuel (addr + n) (off + n) (len - n)

/-- The host reads of one buffer after another, offsets counting on. -/
def splitSegments : List (Nat × Nat) → Nat → List (Nat × Nat × Nat)
  | [], _ => []
  | (a, n) :: rest, off => splitReads n a off n ++ splitSegments rest (off + n)

/-! ## Pieces of a transfer -/

/-- Joins a piece to those that have arrived, kept in order of offset. -/
def insertPiece (p : Piece) : List Piece → List Piece
  | [] => [p]
  | q :: rest => if p.offset ≤ q.offset then p :: q :: rest else q :: insertPiece p rest

/-- The bytes of all pieces in order of offset. -/
def pieceBytes (ps : List Piece) : List Byte := ps.flatMap (·.bytes)

/-! ## Records read from host memory (12.1, 12.2, 12.5, 12.6) -/

/-- The data kind of a code (12.9). -/
def dataKindOf? (code : Nat) : Option DataKind :=
  if code = 0x01 then some .read
  else if code = 0x02 then some .write
  else if code = 0x03 then some .copy
  else if code = 0x04 then some .fill
  else if code = 0x05 then some .verify
  else none

/-- The data request that a record holds, if its kind is a data kind (12.1). -/
def dataReqOf? (r : Block) : Option DataReq :=
  (dataKindOf? (field r 0 1)).map fun kind =>
    { kind := kind
      fence := (field r 1 1).testBit 0
      useList := (field r 1 1).testBit 1
      id := BitVec.ofNat 16 (field r 2 2)
      len := field r 4 4
      a := field r 8 8
      b := field r 16 8
      host := field r 24 8
      listCount := field r 32 2
      pattern := BitVec.ofNat 64 (field r 40 8) }

/-- The request id of a record (12.1). -/
def recordId (r : Block) : BitVec 16 := BitVec.ofNat 16 (field r 2 2)

/-- The configuration command that a record holds, if its kind is a configuration kind (12.2, 12.9). -/
def configCmdOf? (r : Block) : Option ConfigCmd :=
  let code := field r 0 1
  if code = 0x40 then
    some (.queueCreate (field r 4 1) (field r 5 1) (field r 6 2) (field r 8 8) (BitVec.ofNat 8 (field r 16 1))
      (BitVec.ofNat 8 (field r 17 1)))
  else if code = 0x41 then some (.queueDelete (field r 4 1) (field r 5 1) ((field r 6 1).testBit 0))
  else if code = 0x42 then
    some (.eventQueueSet (field r 6 2) (field r 8 8) (field r 16 1) ((field r 17 1).testBit 0))
  else if code = 0x43 then some (.setParameters (field r 4 4) (field r 8 1) (BitVec.ofNat 8 (field r 9 1)))
  else if code = 0x44 then some (.poolFormat (field r 4 4))
  else if code = 0x45 then some (.mapRead (field r 4 4) (field r 8 8))
  else if code = 0x46 then some (.mapLoad (field r 4 4) (field r 8 8))
  else if code = 0x47 then some (.healthRead (field r 4 4) (field r 8 8))
  else if code = 0x48 then some .healthClear
  else if code = 0x49 then some (.migrateRow (field r 4 2) (field r 8 4))
  else if code = 0x4A then some (.statusRead (field r 8 8))
  else none

/-- The entries of a buffer list of `n` entries from its bytes (12.5). -/
def listEntries : Nat → List Byte → List ListEntry
  | 0, _ => []
  | n + 1, bs =>
    { host := bytesToNat (bs.take 8), len := bytesToNat ((bs.drop 8).take 4) } :: listEntries n (bs.drop 16)

/-- Whether a buffer list is consistent with length `len` (R107). -/
def listConsistent (es : List ListEntry) (len : Nat) : Bool :=
  es.all (fun e => decide (e.len ≠ 0) && decide (e.len % 8 = 0)) && decide ((es.map (·.len)).sum = len)

/-- A map export entry as read (12.6), each field at its full width (R204). -/
structure MapEntry where
  bank : Nat
  spare : Nat
  state : Nat
  row : Nat
  deriving DecidableEq, Repr

/-- The entries of a MAP LOAD image of `n` entries from its bytes (12.6). -/
def mapEntries : Nat → List Byte → List MapEntry
  | 0, _ => []
  | n + 1, bs =>
    { bank := bytesToNat (bs.take 2), spare := bytesToNat ((bs.drop 2).take 1),
      state := bytesToNat ((bs.drop 3).take 1), row := bytesToNat ((bs.drop 4).take 4) } :: mapEntries n (bs.drop 8)

/-- Whether an entry of an image is invalid after the entries before it: the four cases of R53. -/
def MapEntry.invalid (earlier : List MapEntry) (e : MapEntry) : Bool :=
  decide (255 < e.bank) || decide (65535 < e.row) || decide (31 < e.spare)
    || (decide (e.state ≠ 1) && decide (e.state ≠ 2))
    || earlier.any (fun f => decide (f.bank = e.bank) && decide (f.spare = e.spare))
    || (decide (e.state = 1) &&
        earlier.any fun f => decide (f.state = 1) && decide (f.bank = e.bank) && decide (f.row = e.row))

/-- The index of the first invalid entry of an image (R53); `earlier` are the entries already examined, in reverse. -/
def firstInvalid : List MapEntry → List MapEntry → Option Nat
  | _, [] => none
  | earlier, e :: rest =>
    if e.invalid earlier then some earlier.length else firstInvalid (e :: earlier) rest

end Sys2Proof.Machine
end

