-- ==== Sys2Proof/Machine/Flags.lean ====
section
/-! DEFINITION. Codes (12.9), flag bits and status fields, and the records, entries and blocks that the device writes
(12.3, 12.4, 12.6 to 12.8, 12.10). -/

namespace Sys2Proof.Machine

/-! ## Codes (12.9) -/

/-- Status codes (12.9). -/
def Status.code : Status → Nat
  | .ok => 0x00 | .tainted => 0x01 | .channelFailed => 0x02 | .hostAccess => 0x03 | .listMismatch => 0x04
  | .aborted => 0x05 | .poolNotReady => 0x10 | .badKind => 0x11 | .badRange => 0x12 | .overlap => 0x13
  | .badList => 0x14 | .duplicateId => 0x15 | .badQueue => 0x20 | .inUse => 0x21 | .wrongState => 0x22
  | .mapInvalid => 0x23 | .queueFull => 0x24 | .alreadyPending => 0x25 | .badParameter => 0x26

/-- Pool state codes (12.9). -/
def PoolState.code : PoolState → Nat
  | .offline => 0 | .formatting => 1 | .online => 2 | .degraded => 3

/-- Ring kind codes (12.4). -/
def RingKind.code : RingKind → Nat
  | .request => 1 | .completion => 2 | .event => 3

/-- QUEUE_FAULT reason codes (12.9). -/
def FaultReason.code : FaultReason → Nat
  | .fetchFailed => 1 | .postFailed => 2 | .positionInvalid => 3

/-- MIGRATION_FAILED reason codes (12.9). -/
def MigReason.code : MigReason → Nat
  | .noSpare => 1 | .targetLimit => 2 | .channelFailed => 3

/-- Health state codes (12.7). -/
def HealthState.code : HealthState → Nat
  | .watch => 0 | .candidate => 1 | .migrating => 2 | .blocked => 3

/-- Last outcome codes (12.7). -/
def ErrOutcome.code : ErrOutcome → Nat
  | .corrected => 1 | .uncorrectable => 2

/-- Event kind codes (12.9). -/
def Event.code : Event → Nat
  | .formatDone _ => 1 | .channelFailed _ => 2 | .migrationDone _ _ _ => 3 | .migrationFailed _ _ _ => 4
  | .taintFound _ _ _ => 5 | .healthTableFull _ _ => 6 | .scrubPassDone _ => 7 | .queueFault _ _ _ => 8

/-! ## Pool conditions -/

/-- The pool admits data requests, scrub and migration starts: ONLINE or DEGRADED (R6). -/
def PoolState.serving : PoolState → Bool
  | .online | .degraded => true
  | .offline | .formatting => false

/-- Whether an outcome sends a report, and which (R32). -/
def reportOf : ReadOutcome → Option ErrOutcome
  | .clean => none
  | .corrected => some .corrected
  | .uncorrectable => some .uncorrectable

/-! ## Events (R187, R189) -/

/-- The key of an event: kind, bank (or channel), row, ring kind and ring id (R187). -/
def Event.key : Event → Nat × Nat × Nat × Nat × Nat
  | .formatDone _ => (1, 0, 0, 0, 0)
  | .channelFailed c => (2, c.val, 0, 0, 0)
  | .migrationDone b r _ => (3, b.val, r.val, 0, 0)
  | .migrationFailed b r _ => (4, b.val, r.val, 0, 0)
  | .taintFound b r _ => (5, b.val, r.val, 0, 0)
  | .healthTableFull b r => (6, b.val, r.val, 0, 0)
  | .scrubPassDone _ => (7, 0, 0, 0, 0)
  | .queueFault k i _ => (8, 0, 0, k.code, i.val)

/-- The enable of an event's kind: bit n enables the kind of code n + 1 (12.2, R188). -/
def Event.enabled (enables : BitVec 8) (e : Event) : Bool := enables.getLsbD (e.code - 1)

/-- Byte 2 of an event record: the reason (12.4). -/
def Event.reasonByte : Event → Nat
  | .migrationFailed _ _ r => r.code
  | .queueFault _ _ r => r.code
  | _ => 0

/-- Byte 10 of an event record: the detail (12.4). -/
def Event.detailByte : Event → Nat
  | .formatDone s => s.code
  | .migrationDone _ _ i => i.val
  | .taintFound _ _ g => g.val
  | _ => 0

/-- Bytes 12 to 15 of an event record: the pass number (12.4). -/
def Event.passField : Event → Nat
  | .scrubPassDone n => n.toNat
  | _ => 0

/-- A bit as a number. -/
def bit (b : Bool) : Nat := if b then 1 else 0

/-- The 32-byte event record (12.4, R192). -/
def eventRecord (en : EventEntry) (lap overflow : Bool) : List Byte :=
  let k := en.event.key
  natToBytes 1 en.event.code ++ natToBytes 1 en.count ++ natToBytes 1 en.event.reasonByte ++ natToBytes 1 k.2.2.2.1
    ++ natToBytes 2 k.2.1 ++ natToBytes 1 (bit lap + 2 * bit overflow) ++ natToBytes 1 k.2.2.2.2
    ++ natToBytes 2 k.2.2.1 ++ natToBytes 1 en.event.detailByte ++ natToBytes 1 0
    ++ natToBytes 4 en.event.passField ++ natToBytes 16 0

/-! ## Completions (R123, 12.3) -/

/-- What a block hands to the queue engine when a request completes or is refused (R123); the queue engine adds the
request ring head and the lap. -/
structure Completion where
  id : BitVec 16
  ring : RingId
  status : Status
  failAddr : Nat
  tainted : Nat
  corrected : Nat
  done : Nat
  result : Nat
  deriving DecidableEq, Repr

/-- The completion of a refused record (R113). -/
def refusal (id : BitVec 16) (ring : RingId) (status : Status) : Completion :=
  { id := id, ring := ring, status := status, failAddr := 0, tainted := 0, corrected := 0, done := 0, result := 0 }

/-- The completion of a configuration command (R172). -/
def commandCompletion (id : BitVec 16) (status : Status) (result : Nat) : Completion :=
  { refusal id 0 status with result := result }

/-- The 32-byte completion record (12.3). -/
def completionRecord (c : Completion) (head : Nat) (lap : Bool) : List Byte :=
  natToBytes 2 c.id.toNat ++ natToBytes 1 c.ring.val ++ natToBytes 1 c.status.code ++ natToBytes 2 head
    ++ natToBytes 1 (bit lap) ++ natToBytes 1 0 ++ natToBytes 8 c.failAddr ++ natToBytes 4 c.tainted
    ++ natToBytes 4 c.corrected ++ natToBytes 4 c.done ++ natToBytes 4 c.result

/-- The status of a data request whose work has ended, in the order of R121. -/
def Slot.status (s : Slot) : Status :=
  if s.aborted then .aborted
  else if s.hostAccess then .hostAccess
  else if s.listMismatch then .listMismatch
  else if s.channelFailed then .channelFailed
  else if s.tainted ≠ 0 then .tainted
  else .ok

/-- The completion of a data request (R122, R123, R140). -/
def Slot.completion (s : Slot) : Completion :=
  { id := s.req.id, ring := s.ring, status := s.status, failAddr := s.failAddr.getD 0, tainted := s.tainted,
    corrected := s.corrected, done := s.done, result := 0 }

/-! ## Export entries (12.6, 12.7) -/

/-- A map export entry as MAP READ writes it (12.6). -/
def mapEntryBytes (b : BankNo) (i : SpareNo) (state : Nat) (row : Nat) : List Byte :=
  natToBytes 2 b.val ++ natToBytes 1 i.val ++ natToBytes 1 state ++ natToBytes 4 row

/-- The export entry of a spare, if it is ACTIVE or RETIRED (R50). -/
def spareEntry (b : BankNo) (i : SpareNo) : Spare → Option (List Byte)
  | .active r => some (mapEntryBytes b i 1 r.val)
  | .retired => some (mapEntryBytes b i 2 0)
  | .free | .target _ => none

/-- A health export entry (12.7). -/
def healthEntryBytes (e : HealthEntry) : List Byte :=
  natToBytes 2 e.bank.val ++ natToBytes 2 e.row.val ++ natToBytes 1 e.count ++ natToBytes 1 e.state.code
    ++ natToBytes 1 e.last.code ++ natToBytes 1 (bit e.queued) ++ natToBytes 4 e.firstPass.toNat ++ natToBytes 4 0

/-! ## The register window (12.10) -/

/-- IDENT: part code 3216h, the revision, vendor code 6Dh (12.10). -/
def identValue : BitVec 32 := (0x6D : BitVec 8) ++ Config.revision ++ (0x3216 : BitVec 16)

/-- The named bits of CONFIG SIZES (12.10); the others are ignored on a write and read as 0 (R203). -/
def sizesMask : BitVec 64 := 0x0000011F1FFF1FFF

/-- RQ0 size, bits 12:0 of CONFIG SIZES (12.10). -/
def HostPort.rq0Size (p : HostPort) : Nat := (p.sizes.extractLsb' 0 13).toNat

/-- CQ0 size, bits 28:16 of CONFIG SIZES (12.10). -/
def HostPort.cq0Size (p : HostPort) : Nat := (p.sizes.extractLsb' 16 13).toNat

/-- CQ0 vector, bits 36:32 of CONFIG SIZES (12.10). -/
def HostPort.cq0Vector (p : HostPort) : Nat := (p.sizes.extractLsb' 32 5).toNat

/-- CQ0 interrupt enable, bit 40 of CONFIG SIZES (12.10). -/
def HostPort.cq0IntEn (p : HostPort) : Bool := p.sizes.getLsbD 40

/-- Any-channel-failed: 1 while at least one channel is FAILED (R34). -/
def PoolSide.anyFailed (p : PoolSide) : Bool := p.channels.toList.any (· == .failed)

/-- STATUS (R196, 12.10): READY, ENABLED, CONFIG_ERROR, any-channel-failed and the pool state code. -/
def statusValue (s : State) : BitVec 32 :=
  BitVec.ofNat 32 (bit s.host.port.ready + 2 * bit s.host.port.enable + 4 * bit s.host.port.configError
    + 8 * bit s.pool.anyFailed + 16 * s.pool.control.state.code)

end Sys2Proof.Machine
end

