-- ==== Sys2Proof/Machine/Ops.lean ====
section
/-! DEFINITION. Shared operations over State: the replacement of one field, access to rings, banks, spares and slots by
number, the granule store, and the record in which the pool side's blocks hand on what a step raises and ends. -/

namespace Sys2Proof.Machine

/-! ## One field replaced -/

/-- `port` replaced. -/
def HostSide.setPort (h : HostSide) (x : HostPort) : HostSide := { h with port := x }

/-- `out` replaced. -/
def HostSide.setOut (h : HostSide) (x : List LinkMsg) : HostSide := { h with out := x }

/-- `engine` replaced. -/
def HostSide.setEngine (h : HostSide) (x : QueueEngine) : HostSide := { h with engine := x }

/-- `tracker` replaced. -/
def HostSide.setTracker (h : HostSide) (x : Tracker) : HostSide := { h with tracker := x }

/-- `config` replaced. -/
def HostSide.setConfig (h : HostSide) (x : ConfigUnit) : HostSide := { h with config := x }

/-- `events` replaced. -/
def HostSide.setEvents (h : HostSide) (x : EventUnit) : HostSide := { h with events := x }

/-- `control` replaced. -/
def PoolSide.setControl (p : PoolSide) (x : PoolControl) : PoolSide := { p with control := x }

/-- `banks` replaced. -/
def PoolSide.setBanks (p : PoolSide) (x : Vector Bank 256) : PoolSide := { p with banks := x }

/-- `channels` replaced. -/
def PoolSide.setChannels (p : PoolSide) (x : Vector ChannelState 16) : PoolSide := { p with channels := x }

/-- `signals` replaced. -/
def PoolSide.setSignals (p : PoolSide) (x : List (SignalTarget × ChanNo)) : PoolSide := { p with signals := x }

/-- `reports` replaced. -/
def PoolSide.setReports (p : PoolSide) (x : List Report) : PoolSide := { p with reports := x }

/-- `spares` replaced. -/
def PoolSide.setSpares (p : PoolSide) (x : Vector (Vector Spare 32) 256) : PoolSide := { p with spares := x }

/-- `migration` replaced. -/
def PoolSide.setMigration (p : PoolSide) (x : Migration) : PoolSide := { p with migration := x }

/-- `health` replaced. -/
def PoolSide.setHealth (p : PoolSide) (x : Health) : PoolSide := { p with health := x }

/-- `scrub` replaced. -/
def PoolSide.setScrub (p : PoolSide) (x : Scrub) : PoolSide := { p with scrub := x }

/-- `mem` replaced. -/
def PoolSide.setMem (p : PoolSide) (x : Memory) : PoolSide := { p with mem := x }

/-- `freeCount` replaced. -/
def PoolSide.setFreeCount (p : PoolSide) (x : Nat) : PoolSide := { p with freeCount := x }

/-- `host` replaced. -/
def State.setHost (s : State) (x : HostSide) : State := { s with host := x }

/-- `pool` replaced. -/
def State.setPool (s : State) (x : PoolSide) : State := { s with pool := x }

/-- `pending` replaced. -/
def State.setPending (s : State) (x : List Instr) : State := { s with pending := x }

/-! ## Access by number -/

/-- Request ring descriptor `n`. -/
def HostSide.rq (h : HostSide) (n : RingId) : Rq := h.engine.rqs[n]

/-- Request ring descriptor `n` replaced. -/
def HostSide.setRq (h : HostSide) (n : RingId) (r : Rq) : HostSide :=
  h.setEngine { h.engine with rqs := h.engine.rqs.set n r }

/-- Completion ring descriptor `n`. -/
def HostSide.cq (h : HostSide) (n : RingId) : Cq := h.engine.cqs[n]

/-- Completion ring descriptor `n` replaced. -/
def HostSide.setCq (h : HostSide) (n : RingId) (r : Cq) : HostSide :=
  h.setEngine { h.engine with cqs := h.engine.cqs.set n r }

/-- The event ring descriptor replaced. -/
def HostSide.setEq (h : HostSide) (r : EvRing) : HostSide := h.setEngine { h.engine with eq := r }

/-- The fetch in flight replaced. -/
def HostSide.setFetch (h : HostSide) (f : Option Fetch) : HostSide := h.setEngine { h.engine with fetch := f }

/-- The occupied slot with number `n`, if slot `n` is occupied. -/
def Tracker.slot? (t : Tracker) (n : SlotNo) : Option Slot := t.slots.find? fun s => s.num == n

/-- The occupied slot with number `n` changed. -/
def HostSide.modifySlot (h : HostSide) (n : SlotNo) (f : Slot → Slot) : HostSide :=
  h.setTracker { h.tracker with slots := h.tracker.slots.map fun s => if s.num = n then f s else s }

/-- Bank unit `b`. -/
def PoolSide.bank (p : PoolSide) (b : BankNo) : Bank := p.banks[b]

/-- Bank unit `b` replaced. -/
def PoolSide.setBank (p : PoolSide) (b : BankNo) (x : Bank) : PoolSide := p.setBanks (p.banks.set b x)

/-- Spare record `i` of bank `b`. -/
def PoolSide.spare (p : PoolSide) (b : BankNo) (i : SpareNo) : Spare := p.spares[b][i]

/-- Spare record `i` of bank `b` replaced. -/
def PoolSide.setSpare (p : PoolSide) (b : BankNo) (i : SpareNo) (x : Spare) : PoolSide :=
  p.setSpares (p.spares.set b (p.spares[b].set i x))

/-- Whether the channel of bank `b` is FAILED. -/
def PoolSide.bankFailed (p : PoolSide) (b : BankNo) : Bool := p.channels[bankChannel b] == .failed

/-! ## The granule store (R17, log entry 4) -/

/-- The canonical form: keys strictly rising. An unlisted granule reads as undefined, and no entry is. -/
abbrev Memory.wf (m : Memory) : Prop := (m.map Prod.fst).Pairwise (· < ·)

/-- What an operation since power-on has written to the granule with key `k`, if one has. -/
def Memory.read : Memory → Nat → Option Granule
  | [], _ => none
  | (a, g) :: rest, k => if a = k then some g else Memory.read rest k

/-- A granule written. -/
def Memory.write : Memory → Nat → Granule → Memory
  | [], k, v => [(k, v)]
  | (a, g) :: rest, k, v =>
    if k < a then (k, v) :: (a, g) :: rest
    else if k = a then (k, v) :: rest
    else (a, g) :: Memory.write rest k v

/-- Granules written one after another. -/
def Memory.writeAll (m : Memory) (ws : List (Nat × Granule)) : Memory := ws.foldl (fun m w => m.write w.1 w.2) m

/-- What a read other than UNCORRECTABLE finds at key `k`: what was last written, or the `i`-th free value of this
operation where the granule is undefined (R17). -/
def PoolSide.granule (p : PoolSide) (k i : Nat) : Granule :=
  (p.mem.read k).getD (Config.undefinedGranule (p.freeCount + i))

/-! ## What a step of the pool side hands on -/

/-- An operation that has ended, with the result and the 64 bytes handed to its issuer (R27). -/
structure OpEnd where
  op : BankOp
  result : OpResult
  data : Block
  deriving DecidableEq, Repr

/-- The pool side within one step, with the events its blocks have raised, in order, and the ended tracker operations
whose results go to the tracker, in order. -/
structure Work where
  pool : PoolSide
  raised : List Event
  ends : List OpEnd
  deriving DecidableEq, Repr

/-- A step begins with nothing raised and nothing ended. -/
def Work.start (p : PoolSide) : Work := { pool := p, raised := [], ends := [] }

/-- A change of the pool side within a step. -/
def Work.onPool (w : Work) (f : PoolSide → PoolSide) : Work := { w with pool := f w.pool }

/-- A block raises an event (R187). -/
def Work.raise (w : Work) (e : Event) : Work := { w with raised := w.raised ++ [e] }

/-- A tracker operation ends (R27). -/
def Work.ended (w : Work) (e : OpEnd) : Work := { w with ends := w.ends ++ [e] }

end Sys2Proof.Machine
end

