-- ==== Sys2Proof/Machine/Banks.lean ====
section
/-! DEFINITION. Bank units: the row-map lookup (R44), the operation queue and the taking of operations (R26, R28, R29,
R69), and the effect of each granule operation by the outcomes its reads meet (R18, R21 to R25, R66, R67, R70 to
R73). -/

namespace Sys2Proof.Machine

/-! ## The row map (R44) -/

/-- Lookup: the spare of a row's map entry, or none when the row lives at its home row (R44). -/
def PoolSide.lookup (p : PoolSide) (b : BankNo) (r : RowNo) : Option SpareNo :=
  (List.finRange 32).find? fun i => p.spare b i == .active r

/-- Spare choice: the lowest-indexed FREE spare of a bank (R44). -/
def PoolSide.freeSpare (p : PoolSide) (b : BankNo) : Option SpareNo :=
  (List.finRange 32).find? fun i => p.spare b i == .free

/-- FREE spares over the banks of ACTIVE channels (R44). -/
def PoolSide.freeSpareCount (p : PoolSide) : Nat :=
  ((List.finRange 256).map fun b =>
    if p.bankFailed b then 0 else (p.spares[b].toList.countP fun x => x == .free)).sum

/-! ## The operation queue (R28, R29) -/

/-- An operation takes a general place: tracker operations and format writes (R28). -/
def BankOp.isGeneral (o : BankOp) : Bool :=
  match o.issuer with
  | .slot _ _ | .format => true
  | .scrub | .migration => false

/-- General places occupied: those of waiting operations and of the operation in progress (R28). -/
def Bank.generalCount (x : Bank) : Nat :=
  x.waiting.countP BankOp.isGeneral + (match x.cur with | some ip => bit ip.op.isGeneral | none => 0)

/-- A general place is free (R28). -/
def Bank.hasGeneral (x : Bank) : Bool := decide (x.generalCount < Config.generalPlaces)

/-- What is read once at the taking: the row map's place and, on the migrating row, the target and the cursor (R26,
R65, R69). -/
def PoolSide.takeOp (p : PoolSide) (b : BankNo) (o : BankOp) : InProgress :=
  { op := o, source := p.lookup b o.row,
    mig := match (p.bank b).record with
      | some m => if m.row = o.row then some (m.target, m.cursor) else none
      | none => none }

/-- Bank unit `b` takes an operation: it is in progress on its first attempt, and its row is the open row (R29,
R31). -/
def PoolSide.beginOp (p : PoolSide) (b : BankNo) (o : BankOp) (rest : List BankOp) : PoolSide :=
  p.setBank b { p.bank b with state := .working, waiting := rest, cur := some (p.takeOp b o), openRow := some o.row,
                              retry := 0 }

/-- The operation a bank takes next: the oldest waiting one of the open row, else the oldest (R29). -/
def Bank.nextOp? (x : Bank) : Option BankOp :=
  match x.waiting.find? fun o => some o.row == x.openRow with
  | some o => some o
  | none => x.waiting.head?

/-- With no operation in progress, the bank takes the next by R29; with none waiting it is IDLE, or CLOSED without
open row and migration record if its channel is FAILED (R31, R37; that the open row goes only then, log entry 28). -/
def PoolSide.takeNext (p : PoolSide) (b : BankNo) : PoolSide :=
  let x := p.bank b
  match x.nextOp? with
  | some o => p.beginOp b o (x.waiting.erase o)
  | none =>
    if p.bankFailed b then p.setBank b { x with state := .closed, openRow := none, record := none }
    else p.setBank b { x with state := .idle }

/-- An operation arrives at a bank of an ACTIVE channel: taken at once if none is in progress, else waiting (R29). -/
def PoolSide.arrive (p : PoolSide) (o : BankOp) : PoolSide :=
  let x := p.bank o.bank
  if x.cur.isNone then p.beginOp o.bank o x.waiting
  else p.setBank o.bank { x with waiting := x.waiting ++ [o] }

/-! ## Reads of a granule (R18) -/

/-- What a read of a granule yields (R18). -/
inductive Yield where
  /-- Stored or corrected data of a VALID granule. -/
  | data (d : Block)
  /-- A granule whose state is TAINTED. -/
  | tainted
  /-- Data lost: the granule is to be marked TAINTED. -/
  | lost
  deriving DecidableEq, Repr

/-- The yield of a read by its outcome and the granule found (R18). -/
def readYield : ReadOutcome → Granule → Yield
  | .uncorrectable, _ => .lost
  | .clean, .valid d => .data d
  | .corrected, .valid d => .data d
  | .clean, .tainted => .tainted
  | .corrected, .tainted => .tainted

/-- What an attempt that completes does: the granules it writes, the result and data handed back, the report it sends,
and whether it met a target failure (R20, R32, R73). -/
structure Effect where
  writes : List (Nat × Granule)
  result : OpResult
  data : Block
  report : Option ErrOutcome
  targetFailed : Bool
  deriving DecidableEq, Repr

/-- An operation that ends with CHANNEL_FAILED has no effect and sends no report (R20, R32). -/
def Effect.channelFailed : Effect :=
  { writes := [], result := .channelFailed, data := 0, report := none, targetFailed := false }

/-- A READ or CHECK of the granule at `k` (R21, R22): a corrected granule is written back, a lost one is marked. -/
def readEffect (k : Nat) (g : Granule) (outcome : ReadOutcome) : Effect :=
  match readYield outcome g with
  | .data d =>
    { writes := if outcome = .corrected then [(k, .valid d)] else []
      result := if outcome = .corrected then .corrected else .ok
      data := d, report := reportOf outcome, targetFailed := false }
  | .tainted => { writes := [], result := .tainted, data := 0, report := reportOf outcome, targetFailed := false }
  | .lost => { writes := [(k, .tainted)], result := .tainted, data := 0, report := reportOf outcome,
               targetFailed := false }

/-- A MERGE that reads the granule at `k` and writes at every key of `ks` (R24, R72). A mask with no flag set makes it
a CHECK. -/
def mergeEffect (k : Nat) (ks : List Nat) (g : Granule) (outcome : ReadOutcome) (mask : BitVec 8) (new : Block) :
    Effect :=
  if mask = 0 then readEffect k g outcome
  else
    match readYield outcome g with
    | .data d =>
      { writes := ks.map fun k => (k, .valid (mergeBlock mask new d))
        result := if outcome = .corrected then .corrected else .ok
        data := 0, report := reportOf outcome, targetFailed := false }
    | .tainted => { writes := [], result := .tainted, data := 0, report := reportOf outcome, targetFailed := false }
    | .lost => { writes := [(k, .tainted)], result := .tainted, data := 0, report := reportOf outcome,
                 targetFailed := false }

/-! ## Operations in progress -/

/-- The key of the source granule of an operation in progress (R26, R69). -/
def InProgress.sourceKey (ip : InProgress) : Nat := granKey ip.op.bank ip.op.row ip.source ip.op.gran

/-- The key of the target granule, when the operation's granule is below the cursor read at its taking (R69). -/
def InProgress.targetKey? (ip : InProgress) : Option Nat :=
  match ip.mig with
  | some (t, c) => if ip.op.gran.val < c then some (granKey ip.op.bank ip.op.row (some t) ip.op.gran) else none
  | none => none

/-- An operation that reads: the target below the cursor, else the source (R71, R72). UNCORRECTABLE at the target is
a target failure, and the operation completes from the source (R73). `act` is the operation's action on the granule
read at its first argument, its writes of new data going to the keys of its second. -/
def PoolSide.readingEffect (p : PoolSide) (ip : InProgress) (outcome source : ReadOutcome)
    (act : Nat → List Nat → Granule → ReadOutcome → Effect) : Effect :=
  match ip.targetKey? with
  | none => act ip.sourceKey [ip.sourceKey] (p.granule ip.sourceKey 0) outcome
  | some t =>
    if outcome = .uncorrectable then
      { act ip.sourceKey [ip.sourceKey] (p.granule ip.sourceKey 1) source with targetFailed := true }
    else act t [t, ip.sourceKey] (p.granule t 0) outcome

/-- A READ in progress completes (R21, R71, R73). -/
def PoolSide.readOpEffect (p : PoolSide) (ip : InProgress) (outcome source : ReadOutcome) : Effect :=
  p.readingEffect ip outcome source fun k _ g o => readEffect k g o

/-- A CHECK in progress completes (R22, R71, R73): it hands back no data. -/
def PoolSide.checkOpEffect (p : PoolSide) (ip : InProgress) (outcome source : ReadOutcome) : Effect :=
  { p.readingEffect ip outcome source fun k _ g o => readEffect k g o with data := 0 }

/-- A MERGE in progress completes (R24, R72, R73). -/
def PoolSide.mergeOpEffect (p : PoolSide) (ip : InProgress) (mask : BitVec 8) (new : Block)
    (outcome source : ReadOutcome) : Effect :=
  { p.readingEffect ip outcome source fun k ks g o => mergeEffect k ks g o mask new with data := 0 }

/-- A WRITE or MARK in progress completes (R23, R25, R70): the source, and the target below the cursor, take the
granule; nothing is read. -/
def InProgress.storeEffect (ip : InProgress) (g : Granule) : Effect :=
  { writes := (ip.sourceKey, g) :: (match ip.targetKey? with | some t => [(t, g)] | none => [])
    result := .ok, data := 0, report := none, targetFailed := false }

/-- The writes of a STEP in progress that copies granule `c` to spare `t` (R65, R66), by what its source read
yields. -/
def PoolSide.stepWrites (p : PoolSide) (ip : InProgress) (t : SpareNo) (c : Nat) (source : ReadOutcome) :
    List (Nat × Granule) :=
  let g : GranNo := Fin.ofNat 32 c
  let sk := granKey ip.op.bank ip.op.row ip.source g
  let tk := granKey ip.op.bank ip.op.row (some t) g
  match readYield source (p.granule sk 0) with
  | .data d => (if source = .corrected then [(sk, .valid d)] else []) ++ [(tk, .valid d)]
  | .tainted => [(tk, .tainted)]
  | .lost => [(sk, .tainted), (tk, .tainted)]

/-- What an attempt does to the granules and the reports (R19, R32): its writes, its report, and the free values its
reads may have used. -/
def PoolSide.commit (p : PoolSide) (b : BankNo) (r : RowNo) (writes : List (Nat × Granule))
    (report : Option ErrOutcome) : PoolSide :=
  ((p.setMem (p.mem.writeAll writes)).setFreeCount (p.freeCount + 2)).setReports
    (p.reports ++ match report with
      | some o => [{ bank := b, row := r, outcome := o }]
      | none => [])

/-- The operation in progress leaves its place, and the retry count returns to 0 (R27, R35). R35 says so of an attempt that
completes without error; after CHANNEL_FAILED it is the model's choice (log entry 27). -/
def PoolSide.clearCur (p : PoolSide) (b : BankNo) : PoolSide :=
  p.setBank b { p.bank b with state := .idle, cur := none, retry := 0 }

end Sys2Proof.Machine
end

