-- ==== Sys2Proof/Machine/Health.lean ====
section
/-! DEFINITION. The migration queue's answer to an offer (R58) and the health monitor: reports (R85 to R88), offers and
room (R89, R90), signals of the migration controller (R91), threshold (R93), decay (R94) and clearing (R92, R96). -/

namespace Sys2Proof.Machine

/-! ## The migration queue (R57, R58) -/

/-- The migration queue's answers to an offer (R58). -/
inductive Answer where
  | accepted | channelFailed | alreadyPending | queueFull
  deriving DecidableEq, Repr

/-- An OCCUPIED migration slot names the row (R80). -/
def PoolSide.migrating (p : PoolSide) (b : BankNo) (r : RowNo) : Bool :=
  p.migration.slots.toList.any fun s => s.any fun m => m.bank == b && m.row == r

/-- The answer to an offer of a row, the first check that fails (R58). -/
def PoolSide.answer (p : PoolSide) (b : BankNo) (r : RowNo) : Answer :=
  if p.bankFailed b then .channelFailed
  else if p.migration.queue.contains (b, r) || p.migrating b r then .alreadyPending
  else if Config.queueCapacity ≤ p.migration.queue.length then .queueFull
  else .accepted

/-- A row is offered: accepted, it joins the queue as its newest candidate (R58). -/
def PoolSide.offer (p : PoolSide) (b : BankNo) (r : RowNo) : PoolSide :=
  if p.answer b r = .accepted then
    p.setMigration { p.migration with queue := p.migration.queue ++ [(b, r)] }
  else p

/-! ## Entries -/

/-- An entry is that of row (b, r) (R83). -/
def HealthEntry.isFor (e : HealthEntry) (b : BankNo) (r : RowNo) : Bool := e.bank == b && e.row == r

/-- The health table replaced. -/
def PoolSide.setTable (p : PoolSide) (t : List HealthEntry) : PoolSide := p.setHealth { p.health with table := t }

/-- The row's entry changed, if it has one. -/
def PoolSide.modifyEntry (p : PoolSide) (b : BankNo) (r : RowNo) (f : HealthEntry → HealthEntry) : PoolSide :=
  p.setTable (p.health.table.map fun e => if e.isFor b r then f e else e)

/-- The row's entry removed, if it has one. -/
def PoolSide.removeEntry (p : PoolSide) (b : BankNo) (r : RowNo) : PoolSide :=
  p.setTable (p.health.table.filter fun e => !e.isFor b r)

/-! ## Signals of the migration controller (R78, R91) -/

/-- Queued: an offer of the row was accepted (R91). -/
def HealthEntry.queuedSignal (e : HealthEntry) : HealthEntry :=
  match e.state with
  | .watch | .candidate | .blocked => { e with state := .candidate, queued := true }
  | .migrating => e

/-- Migrating: the row's migration started (R91). -/
def PoolSide.signalMigrating (p : PoolSide) (b : BankNo) (r : RowNo) : PoolSide :=
  p.modifyEntry b r fun e => { e with state := .migrating, queued := false }

/-- Blocked: the row's candidate was dropped or its migration failed (R91). -/
def PoolSide.signalBlocked (p : PoolSide) (b : BankNo) (r : RowNo) : PoolSide :=
  p.modifyEntry b r fun e => { e with state := .blocked, queued := false }

/-- Migrated: the row's migration completed (R91). -/
def PoolSide.signalMigrated (p : PoolSide) (b : BankNo) (r : RowNo) : PoolSide := p.removeEntry b r

/-! ## Offers and room (R89, R90) -/

/-- The health monitor offers the row of a CANDIDATE entry and acts on the answer (R89). -/
def PoolSide.offerEntry (p : PoolSide) (b : BankNo) (r : RowNo) : PoolSide :=
  match p.answer b r with
  | .accepted => (p.offer b r).modifyEntry b r fun e => { e.queuedSignal with queued := true }
  | .alreadyPending => p.modifyEntry b r fun e => { e with queued := true }
  | .queueFull => p.modifyEntry b r fun e => { e with queued := false }
  | .channelFailed => p.removeEntry b r

/-- The oldest CANDIDATE entry whose queued flag is clear (R90). -/
def Health.nextOffer (h : Health) : Option HealthEntry :=
  h.table.find? fun e => e.state == .candidate && !e.queued

/-- Room is signalled: CANDIDATE entries with a clear flag are offered in table order until the answer is QUEUE_FULL
(R90). The first argument bounds the offers. -/
def PoolSide.offerRoom : Nat → PoolSide → PoolSide
  | 0, p => p
  | k + 1, p =>
    match p.health.nextOffer with
    | none => p
    | some e =>
      if p.answer e.bank e.row = .queueFull then p else (p.offerEntry e.bank e.row).offerRoom k

/-- The migration controller signals room (R59, R90). -/
def PoolSide.signalRoom (p : PoolSide) : PoolSide := p.offerRoom p.health.table.length

/-! ## Outcome reports (R85 to R88) -/

/-- A report for an entry: the count rises, saturating at 15, and a WATCH entry may become CANDIDATE (R86). -/
def HealthEntry.report (e : HealthEntry) (threshold : Nat) (o : ErrOutcome) : HealthEntry :=
  let count := min 15 (e.count + 1)
  { e with
    count := count, last := o
    state := match e.state with
      | .watch => if o = .uncorrectable ∨ threshold ≤ count then .candidate else .watch
      | .candidate => .candidate
      | .migrating => .migrating
      | .blocked => .blocked }

/-- The new entry for a report, by what the migration controller says of the row (R87). -/
def PoolSide.newEntry (p : PoolSide) (q : Report) : HealthEntry :=
  let inQueue := p.migration.queue.contains (q.bank, q.row)
  let crosses := q.outcome = .uncorrectable ∨ p.health.threshold ≤ 1
  { bank := q.bank, row := q.row, count := 1, firstPass := p.scrub.pass, last := q.outcome
    state := if p.migrating q.bank q.row then .migrating else if crosses then .candidate else .watch
    queued := !p.migrating q.bank q.row && inQueue }

/-- The WATCH entry to evict: lowest count, and the oldest of those (R88). -/
def evictee : List HealthEntry → Option HealthEntry
  | [] => none
  | e :: rest =>
    match evictee rest with
    | none => if e.state = .watch then some e else none
    | some f => if e.state = .watch ∧ e.count ≤ f.count then some e else some f

/-- The new entry joins the table as newest, and is offered if it is CANDIDATE with a clear flag (R87, R89). -/
def PoolSide.addEntry (p : PoolSide) (q : Report) : PoolSide :=
  let e := p.newEntry q
  let p' := p.setTable (p.health.table ++ [e])
  if e.state = .candidate ∧ e.queued = false then p'.offerEntry e.bank e.row else p'

/-- A report is recorded in the row's entry, which is offered if it became CANDIDATE with a clear flag (R86, R89). -/
def PoolSide.countReport (p : PoolSide) (q : Report) (e : HealthEntry) : PoolSide :=
  let p' := p.modifyEntry q.bank q.row fun e => e.report p.health.threshold q.outcome
  if e.state = .watch ∧ (e.report p.health.threshold q.outcome).state = .candidate ∧ e.queued = false then
    p'.offerEntry q.bank q.row
  else p'

/-- An outcome report arrives at the health monitor (R85 to R88). -/
def Work.takeReport (w : Work) (q : Report) : Work :=
  let p := w.pool
  if p.bankFailed q.bank then w
  else
    match p.health.table.find? fun e => e.isFor q.bank q.row with
    | some e => w.onPool fun p => p.countReport q e
    | none =>
      if p.health.table.length < Config.healthCapacity then w.onPool fun p => p.addEntry q
      else
        match evictee p.health.table with
        | some v => w.onPool fun p => (p.removeEntry v.bank v.row).addEntry q
        | none =>
          let w' := w.raise (.healthTableFull q.bank q.row)
          if q.outcome = .uncorrectable then w'.onPool fun p => p.offer q.bank q.row else w'

/-! ## Threshold, decay, clearing (R92 to R96) -/

/-- The rows offered at a threshold change: WATCH entries at or above the new T whose flag is clear (R93). -/
def Health.crossing (h : Health) (threshold : Nat) : List HealthEntry :=
  h.table.filter fun e => e.state == .watch && decide (threshold ≤ e.count)

/-- The threshold is set (R93): lowered, WATCH entries at or above it become CANDIDATE, and those with a clear flag are
offered in table order. -/
def PoolSide.setThreshold (p : PoolSide) (threshold : Nat) : PoolSide :=
  let cross := p.health.crossing threshold
  let p1 := p.setHealth { p.health with threshold := threshold }
  if threshold < p.health.threshold then
    let p2 := p1.setTable (p1.health.table.map fun e =>
      if e.state = .watch ∧ threshold ≤ e.count then { e with state := .candidate } else e)
    (cross.filter fun e => !e.queued).foldl (fun p e => p.offerEntry e.bank e.row) p2
  else p1

/-- The decay at a pass end: WATCH counts fall by one, and those that reach 0 are removed (R94). -/
def decayTable (t : List HealthEntry) : List HealthEntry :=
  (t.map fun e => if e.state = .watch then { e with count := e.count - 1 } else e).filter
    fun e => !(e.state == .watch && e.count == 0)

/-- Every entry of a failed channel is removed (R92). -/
def PoolSide.removeChannelEntries (p : PoolSide) (c : ChanNo) : PoolSide :=
  p.setTable (p.health.table.filter fun e => bankChannel e.bank != c)

/-- HEALTH CLEAR removes every WATCH and BLOCKED entry (R96). -/
def clearTable (t : List HealthEntry) : List HealthEntry :=
  t.filter fun e => e.state == .candidate || e.state == .migrating

end Sys2Proof.Machine
end

