-- ==== Sys2Proof/Machine/MigrationUnit.lean ====
section
/-! DEFINITION. The migration controller: starts (R62 to R64), the reports of STEPs (R68), target failures, restarts and
failures (R75, R76), completion (R77) and abandonment (R79), with the row map's changes at each (R45 to R48). -/

namespace Sys2Proof.Machine

/-- The migration slot that names bank `b`, if one does; no two do (R60). -/
def Migration.slotOf? (m : Migration) (b : BankNo) : Option (Fin 4 × MigSlot) :=
  (List.finRange 4).findSome? fun i =>
    match m.slots[i] with
    | some s => if s.bank = b then some (i, s) else none
    | none => none

/-- The lowest-numbered FREE migration slot (R64). -/
def Migration.freeSlot? (m : Migration) : Option (Fin 4) := (List.finRange 4).find? fun i => m.slots[i].isNone

/-- Migration slot `i` replaced. -/
def PoolSide.setMigSlot (p : PoolSide) (i : Fin 4) (s : Option MigSlot) : PoolSide :=
  p.setMigration { p.migration with slots := p.migration.slots.set i s }

/-- The migration record of bank `b` replaced (R61). -/
def PoolSide.setRecord (p : PoolSide) (b : BankNo) (r : Option MigRecord) : PoolSide :=
  p.setBank b { p.bank b with record := r }

/-- The bank's record that goes with a slot: the two hold the same values (R61). -/
def MigSlot.record (s : MigSlot) : MigRecord :=
  { row := s.row, source := s.source, target := s.target, cursor := s.cursor }

/-- The slot and the bank's record take the values of `s` together (R61). -/
def PoolSide.setMig (p : PoolSide) (i : Fin 4) (s : MigSlot) : PoolSide :=
  (p.setMigSlot i (some s)).setRecord s.bank (some s.record)

/-! ## Abandonment, failure, completion -/

/-- The migration in slot `i` is abandoned (R48, R79): its target returns to FREE, the slot becomes FREE,
MIGRATION_FAILED is raised and room signalled. The bank's record goes when the bank becomes CLOSED. -/
def Work.abandon (w : Work) (i : Fin 4) (s : MigSlot) : Work :=
  (w.onPool fun p => ((p.setSpare s.bank s.target .free).setMigSlot i none).signalRoom).raise
    (.migrationFailed s.bank s.row .channelFailed)

/-- The migration in slot `i` fails (R75): the slot becomes FREE, the record is removed, MIGRATION_FAILED is raised,
the row is blocked and room signalled. -/
def Work.failMigration (w : Work) (i : Fin 4) (s : MigSlot) (reason : MigReason) : Work :=
  (w.onPool fun p =>
    (((p.setMigSlot i none).setRecord s.bank none).signalBlocked s.bank s.row).signalRoom).raise
    (.migrationFailed s.bank s.row reason)

/-- A target failure reaches the controller while the channel is ACTIVE (R75): the target is RETIRED, and the migration
restarts on the lowest FREE spare or fails. -/
def Work.targetFailure (w : Work) (i : Fin 4) (s : MigSlot) : Work :=
  let w1 := w.onPool fun p => p.setSpare s.bank s.target .retired
  if Config.maxAttempts ≤ s.attempt then w1.failMigration i s .targetLimit
  else
    match w1.pool.freeSpare s.bank with
    | some t => w1.onPool fun p => (p.setSpare s.bank t (.target s.row)).setMig i
        { s with target := t, cursor := 0, attempt := s.attempt + 1 }
    | none => w1.failMigration i s .noSpare

/-- The migration in slot `i` completes (R47, R77): the target becomes ACTIVE, a spare source RETIRED, the slot FREE,
the record is removed, MIGRATION_DONE raised, the row's entry removed and room signalled. -/
def Work.completeMigration (w : Work) (i : Fin 4) (s : MigSlot) : Work :=
  (w.onPool fun p =>
    let p1 := p.setSpare s.bank s.target (.active s.row)
    let p2 := match s.source with | some x => p1.setSpare s.bank x .retired | none => p1
    (((p2.setMigSlot i none).setRecord s.bank none).signalMigrated s.bank s.row).signalRoom).raise
    (.migrationDone s.bank s.row s.target)

/-! ## Reports of a STEP and of a host operation -/

/-- The controller acts on a STEP's report at its end, with the channel state as it stands (R67, R68, R79); the next
STEP is placed after the bank has taken its next operation. -/
def Work.stepReport (w : Work) (b : BankNo) (r : StepReport) : Work :=
  match w.pool.migration.slotOf? b with
  | none => w
  | some (i, s) =>
    match r with
    | .void => w
    | .channelFailed => w.abandon i s
    | .targetFailed => if w.pool.bankFailed b then w.abandon i s else w.targetFailure i s
    | .advanced =>
      let s' := { s with cursor := s.cursor + 1 }
      if 32 ≤ s'.cursor then w.completeMigration i s'
      else if w.pool.bankFailed b then w.abandon i s'
      else w.onPool fun p => p.setMig i s'

/-- The STEP of a failed migration that waits in the bank ends VOID (R76). -/
def PoolSide.voidStep (p : PoolSide) (b : BankNo) : PoolSide :=
  let x := p.bank b
  if x.record.isNone then p.setBank b { x with waiting := x.waiting.filter fun o => o.kind != .step } else p

/-- A host operation that met a target failure has ended (R73, R75, R76): ignored in a FAILED channel and when the
migration of the row has ended. -/
def Work.hostTargetFailure (w : Work) (b : BankNo) (r : RowNo) : Work :=
  match w.pool.migration.slotOf? b with
  | none => w
  | some (i, s) =>
    if s.row = r ∧ w.pool.bankFailed b = false then (w.targetFailure i s).onPool fun p => p.voidStep b else w

/-! ## The next STEP (R65, R68) -/

/-- The STEP of bank `b`'s migration of row `r`. -/
def stepOp (b : BankNo) (r : RowNo) : BankOp := { kind := .step, issuer := .migration, bank := b, row := r, gran := 0 }

/-- The next STEP is placed while the bank has a migration and its channel is ACTIVE (R68). -/
def PoolSide.placeStep (p : PoolSide) (b : BankNo) : PoolSide :=
  match (p.bank b).record with
  | some m => if p.bankFailed b then p else p.arrive (stepOp b m.row)
  | none => p

/-! ## Starts (R62 to R64) -/

/-- The oldest candidate whose bank has no OCCUPIED slot (R62). -/
def Migration.candidate? (m : Migration) : Option (BankNo × RowNo) :=
  m.queue.find? fun c => (m.slotOf? c.1).isNone

/-- The candidate leaves the queue (R59). -/
def PoolSide.dropCandidate (p : PoolSide) (b : BankNo) (r : RowNo) : PoolSide :=
  p.setMigration { p.migration with queue := p.migration.queue.erase (b, r) }

/-- A bank that is CLOSED already holds no migration record; any other bank keeps its record until it becomes CLOSED
(R61, R79). -/
def PoolSide.dropClosedRecord (p : PoolSide) (b : BankNo) : PoolSide :=
  if (p.bank b).state = .closed then p.setRecord b none else p

/-- A candidate is taken: dropped for want of a spare (R63), or started (R64). A first STEP that arrives at a FAILED
channel ends with CHANNEL_FAILED at once, and the migration is abandoned (R38, R79); the record that the start created
stays while the bank carries on a first attempt, and goes at once in a CLOSED bank (log entry 21). -/
def Work.startCandidate (w : Work) (i : Fin 4) (b : BankNo) (r : RowNo) : Work :=
  match w.pool.freeSpare b with
  | none =>
    (w.onPool fun p => ((p.dropCandidate b r).signalBlocked b r).signalRoom).raise
      (.migrationFailed b r .noSpare)
  | some t =>
    let s : MigSlot := { bank := b, row := r, source := w.pool.lookup b r, target := t, cursor := 0, attempt := 1 }
    let w1 := w.onPool fun p => ((p.dropCandidate b r).setSpare b t (.target r)).setMig i s
    let w2 := w1.onPool fun p => (p.signalMigrating b r).signalRoom
    if w.pool.bankFailed b then (w2.stepReport b .channelFailed).onPool fun p => p.dropClosedRecord b
    else w2.onPool fun p => p.placeStep b

/-- The migration controller starts a migration if a slot is FREE, the pool serves and a candidate is eligible (R62). -/
def Work.startMigration (w : Work) : Work :=
  match w.pool.migration.freeSlot?, w.pool.migration.candidate? with
  | some i, some (b, r) => if w.pool.control.state.serving then w.startCandidate i b r else w
  | some _, none => w
  | none, _ => w

/-- The failure signal of a channel at the migration controller: its candidates leave the queue, and room is signalled,
whether or not a candidate left (R59, R79). -/
def PoolSide.removeCandidates (p : PoolSide) (c : ChanNo) : PoolSide :=
  (p.setMigration { p.migration with
    queue := p.migration.queue.filter fun x => bankChannel x.1 != c }).signalRoom

end Sys2Proof.Machine
end

