-- ==== Sys2Proof/Machine/Scrub.lean ====
section
/-! DEFINITION. The scrubber: visits (R99), the results of its CHECKs (R100), pass ends (R101), its suspension in a
format (R102), timer expiry (R98) and interval changes (R103). -/

namespace Sys2Proof.Machine

/-- The position after (row, bank) (R99): the bank rises first, and the row after bank 255. -/
def Scrub.advance (s : Scrub) : Scrub :=
  { s with bank := s.bank + 1, row := if s.bank = 255 then s.row + 1 else s.row }

/-- A pass ends (R101): the pass number rises, the health table decays and SCRUB_PASS_DONE is raised. -/
def Work.passEnd (w : Work) : Work :=
  (w.onPool fun p =>
    (p.setScrub { p.scrub with pass := p.scrub.pass + 1 }).setTable (decayTable p.health.table)).raise
    (.scrubPassDone (w.pool.scrub.pass + 1))

/-- The visit to (row, bank) has ended: the pass ends with the visit to the last position (R99, R101). -/
def Work.visitEnd (w : Work) (b : BankNo) (r : RowNo) : Work :=
  if r = 65535 ∧ b = 255 then w.passEnd else w

/-- The scrubber passes over a row of a FAILED channel and a row with a migration in progress (R80, R99). -/
def PoolSide.passesOver (p : PoolSide) (b : BankNo) (r : RowNo) : Bool := p.bankFailed b || p.migrating b r

/-- The CHECK of granule `g` of a scrubbed row (R99, R100). -/
def scrubOp (b : BankNo) (r : RowNo) (g : GranNo) : BankOp :=
  { kind := .check, issuer := .scrub, bank := b, row := r, gran := g }

/-- The scrubber visits its position (R99). -/
def Work.visit (w : Work) : Work :=
  let s := w.pool.scrub
  let w1 := w.onPool fun p => p.setScrub s.advance
  if w.pool.passesOver s.bank s.row then w1.visitEnd s.bank s.row
  else w1.onPool fun p =>
    (p.setScrub { p.scrub with cur := some { bank := s.bank, row := s.row, next := 0 } }).arrive
      (scrubOp s.bank s.row 0)

/-- The row in progress ends (R99 to R101), and an owed visit is made at the same event (R98). -/
def Work.rowEnd (w : Work) (c : ScrubRow) : Work :=
  let w1 := (w.onPool fun p => p.setScrub { p.scrub with cur := none }).visitEnd c.bank c.row
  if w1.pool.scrub.owed then (w1.onPool fun p => p.setScrub { p.scrub with owed := false }).visit else w1

/-- The scrubber receives the result of its CHECK with the outcome of the read that completed it: `lost` when that
outcome was UNCORRECTABLE (R100, R102). -/
def Work.scrubResult (w : Work) (result : OpResult) (lost : Bool) : Work :=
  match w.pool.scrub.cur with
  | none => w
  | some c =>
    let w1 := if lost then w.raise (.taintFound c.bank c.row (Fin.ofNat 32 c.next)) else w
    let n := c.next + 1
    if result = .channelFailed ∨ w.pool.control.state = .formatting ∨ 32 ≤ n ∨ w.pool.passesOver c.bank c.row then
      w1.rowEnd c
    else w1.onPool fun p =>
      (p.setScrub { p.scrub with cur := some { c with next := n } }).arrive (scrubOp c.bank c.row (Fin.ofNat 32 n))

/-- The scrub timer expires (R98). -/
def Work.timerExpiry (w : Work) : Work :=
  let s := w.pool.scrub
  if s.running then
    if s.cur.isSome then w.onPool fun p => p.setScrub { p.scrub with owed := true } else w.visit
  else w

/-- The scrub interval is set (R103): the timer starts, stops or restarts by the change. -/
def Scrub.setInterval (s : Scrub) (interval : Nat) (serving : Bool) : Scrub :=
  if interval = s.interval then s
  else if interval = 0 then { s with interval := 0, running := false, owed := false }
  else { s with interval := interval, running := serving }

end Sys2Proof.Machine
end

