-- ==== Sys2Proof/Machine/Format.lean ====
section
/-! DEFINITION. Pool control: the checks and the beginning of a POOL FORMAT (R9, R10), its turns (R12), the ends of its
writes (R13, R15), its end (R14), and the failure signal of a channel (R8). -/

namespace Sys2Proof.Machine

/-- The format cursor replaced. -/
def PoolSide.setCursor (p : PoolSide) (c : Option FormatCursor) : PoolSide :=
  p.setControl { p.control with cursor := c }

/-- Every bank of the cursor is done (R14). -/
def FormatCursor.allDone (c : FormatCursor) : Bool := c.banks.toList.all (·.done)

/-- The format ends (R14): the pool becomes ONLINE or DEGRADED, the cursor is discarded, the scrub timer starts if the
interval is 1 or more (R102), and FORMAT_DONE is raised. -/
def Work.formatEnd (w : Work) : Work :=
  let final : PoolState := if w.pool.anyFailed then .degraded else .online
  (w.onPool fun p =>
    (p.setControl { p.control with state := final, cursor := none }).setScrub
      { p.scrub with running := decide (1 ≤ p.scrub.interval) }).raise (.formatDone final)

/-- The format ends once every bank is done (R14). -/
def Work.formatCheck (w : Work) : Work :=
  match w.pool.control.cursor with
  | some c => if c.allDone then w.formatEnd else w
  | none => w

/-- A bank position at the start of a format (R10, R11). -/
def FormatBank.start (done : Bool) : FormatBank := { row := 0, issued := 0, ended := 0, done := done }

/-- A POOL FORMAT begins (R10): stride, state and cursor are set, and the scrubber is suspended (R102). -/
def Work.beginFormat (w : Work) (st : Stride) : Work :=
  (w.onPool fun p =>
    (p.setControl
      { state := .formatting, stride := st,
        cursor := some { banks := Vector.ofFn fun b => FormatBank.start (p.bankFailed b), turn := 0 } }).setScrub
      { p.scrub with running := false, owed := false }).formatCheck

/-- The bank position after one of its format writes has ended (R13, R15). -/
def FormatBank.writeEnd (x : FormatBank) : FormatBank :=
  if x.done then { x with ended := x.ended + 1 }
  else if x.ended + 1 < 32 then { x with ended := x.ended + 1 }
  else if x.row = 65535 then { x with ended := x.ended + 1, done := true }
  else { row := x.row + 1, issued := 0, ended := 0, done := false }

/-- A format write of bank `b` ends (R13, R15). -/
def Work.formatWriteEnd (w : Work) (b : BankNo) : Work :=
  match w.pool.control.cursor with
  | none => w
  | some c => (w.onPool fun p =>
      p.setCursor (some { c with banks := c.banks.set b c.banks[b].writeEnd })).formatCheck

/-- The format write of granule `g` (R12). -/
def formatOp (b : BankNo) (r : RowNo) (g : GranNo) : BankOp :=
  { kind := .write 0, issuer := .format, bank := b, row := r, gran := g }

/-- One turn of the format (R12). A write placed at a bank of a FAILED channel ends at once (R38). -/
def Work.formatTurn (w : Work) : Work :=
  match w.pool.control.cursor with
  | none => w
  | some c =>
    let b := c.turn
    let x := c.banks[b]
    if x.done = false ∧ x.issued < 32 ∧ (w.pool.bank b).hasGeneral then
      let w1 := w.onPool fun p => p.setCursor (some
        { banks := c.banks.set b { x with issued := x.issued + 1 }, turn := b + 1 })
      if w.pool.bankFailed b then w1.formatWriteEnd b
      else w1.onPool fun p => p.arrive (formatOp b x.row (Fin.ofNat 32 x.issued))
    else w.onPool fun p => p.setCursor (some { c with turn := b + 1 })

/-- The failure signal of a channel at pool control (R8, R15): ONLINE becomes DEGRADED; in FORMATTING the channel's 16
banks are marked done. -/
def Work.poolSignal (w : Work) (ch : ChanNo) : Work :=
  match w.pool.control.state with
  | .online => w.onPool fun p => p.setControl { p.control with state := .degraded }
  | .formatting =>
    match w.pool.control.cursor with
    | none => w
    | some c => (w.onPool fun p => p.setCursor (some
        { c with banks := Vector.ofFn fun b =>
            if bankChannel b = ch then { c.banks[b] with done := true } else c.banks[b] })).formatCheck
  | .offline => w
  | .degraded => w

end Sys2Proof.Machine
end

