-- ==== Sys2Proof/Machine/Channel.lean ====
section
/-! DEFINITION. The end of an operation at its bank (R27, R31) and the channel controllers: retries (R35), the failure
of a channel (R36) and what it does to the operations of its banks (R37, R39). Inside one end the order is: granules
and report, the freed place, the migration controller's act, the bank's next taking, the next STEP, the hand-back
(log entry 7). -/

namespace Sys2Proof.Machine

/-- The result of an ended operation goes to its issuer (R27): for the tracker it is kept in order, and a STEP that ends
so has met the failure of its channel. `lost` says that the read which completed it met UNCORRECTABLE (R100). -/
def Work.handBack (w : Work) (e : OpEnd) (lost : Bool) : Work :=
  match e.op.issuer with
  | .slot _ _ => w.ended e
  | .format => w.formatWriteEnd e.op.bank
  | .scrub => w.scrubResult e.result lost
  | .migration => w.stepReport e.op.bank .channelFailed

/-- The operation in progress at bank `b`, other than a STEP, ends with effect `f` (R21 to R25, R27, R32, R73). -/
def Work.endOp (w : Work) (b : BankNo) (ip : InProgress) (f : Effect) : Work :=
  let w1 := w.onPool fun p => (p.commit b ip.op.row f.writes f.report).clearCur b
  let w2 := if f.targetFailed then w1.hostTargetFailure b ip.op.row else w1
  (w2.onPool fun p => p.takeNext b).handBack { op := ip.op, result := f.result, data := f.data }
    (f.report == some .uncorrectable)

/-- The STEP in progress at bank `b` ends (R66 to R68): the cursor granule is copied and verified, and the next STEP is
placed after the bank has taken its next operation. A STEP without a migration record ends VOID. -/
def Work.endStep (w : Work) (b : BankNo) (ip : InProgress) (source verify : ReadOutcome) : Work :=
  match ip.mig with
  | none => w.onPool fun p => (p.clearCur b).takeNext b
  | some (t, c) =>
    let w1 := w.onPool fun p => (p.commit b ip.op.row (p.stepWrites ip t c source) (reportOf source)).clearCur b
    let w2 := w1.stepReport b (if verify = .clean then .advanced else .targetFailed)
    w2.onPool fun p => (p.takeNext b).placeStep b

/-- The blocks that receive the failure signal of a channel (R39, R134). -/
def signalTargets : List SignalTarget := [.poolControl, .migrationController, .healthMonitor, .tracker]

/-- At its channel's failure the operation in progress at a bank ends at once, unless it is on its first attempt (R37);
at the bank that met the last command error it ends in any case (R36). -/
def Bank.endsAtFailure (x : Bank) (met : Bool) : Bool := met || x.state == .retrying

/-- The operations of a bank that end with CHANNEL_FAILED at the failure of its channel: the one in progress, then the
waiting ones by age (R37). -/
def Bank.failEnds (x : Bank) (met : Bool) : List BankOp :=
  match x.cur with
  | some ip => if x.endsAtFailure met then ip.op :: x.waiting else x.waiting
  | none => x.waiting

/-- A bank unit at the failure of its channel (R31, R37): CLOSED, or carrying on a first attempt. That a CLOSED bank's retry
count is 0, and that a bank which carries on keeps its open row until it is CLOSED, is the model's (log entries 27, 28). -/
def Bank.failed (x : Bank) (met : Bool) : Bank :=
  if x.cur.isSome ∧ x.endsAtFailure met = false then { x with waiting := [] }
  else { state := .closed, waiting := [], cur := none, openRow := none, record := none, retry := 0 }

/-- The channel of bank `b` becomes FAILED (R36, R37, R39): CHANNEL_FAILED is raised, its failure signals go out, and
the operations of its banks end with CHANNEL_FAILED, banks in ascending order (log entry 7). CHANNEL_FAILED is raised before
the events of those ends, MIGRATION_FAILED among them: the model's order (log entry 29). -/
def Work.failChannel (w : Work) (b : BankNo) : Work :=
  let c := bankChannel b
  let ends := (channelBanks c).flatMap fun i => (w.pool.bank i).failEnds (i == b)
  let w1 := (w.onPool fun p =>
    ((p.setChannels (p.channels.set c .failed)).setBanks
      (Vector.ofFn fun i => if bankChannel i = c then (p.bank i).failed (i == b) else p.bank i)).setSignals
      (p.signals ++ signalTargets.map fun t => (t, c))).raise (.channelFailed c)
  ends.foldl (fun w o => w.handBack { op := o, result := .channelFailed, data := 0 } false) w1

/-- The operation in progress at bank `b` can be tried again: its channel is ACTIVE and its retry count is below 8
(R35). -/
def PoolSide.retries (p : PoolSide) (b : BankNo) : Bool :=
  !p.bankFailed b && decide ((p.bank b).retry < Config.maxRetries)

/-- The attempt at bank `b` is undone and tried again (R35). -/
def PoolSide.retryOp (p : PoolSide) (b : BankNo) : PoolSide :=
  p.setBank b { p.bank b with state := .retrying, retry := (p.bank b).retry + 1 }

/-- The attempt in progress at bank `b` meets a command error that is not retried (R36, R37): its channel fails, or, in
a channel that is FAILED already, the operation ends with CHANNEL_FAILED. -/
def Work.lastError (w : Work) (b : BankNo) (ip : InProgress) : Work :=
  if w.pool.bankFailed b then
    (w.onPool fun p => (p.clearCur b).takeNext b).handBack { op := ip.op, result := .channelFailed, data := 0 } false
  else w.failChannel b

end Sys2Proof.Machine
end

