-- ==== Sys2Proof/Machine/HostPort.lean ====
section
/-! DEFINITION. The host port: the host address window (R197), host reads and their places (R198), posted writes and
interrupt messages (R199). -/

namespace Sys2Proof.Machine

/-- An access of `n` bytes at host address `a` lies inside the window (R197). -/
def HostPort.inWindow (p : HostPort) (a n : Nat) : Bool :=
  decide (p.windowLow.toNat ≤ a) && decide (a + n - 1 ≤ p.windowHigh.toNat) && decide (a + n - 1 ≤ 2 ^ 64 - 1)

/-- A block asks for one host read that is inside the window: it takes a free place and is sent, or joins the waiting
list (R198). -/
def HostSide.placeRead (h : HostSide) (owner : Owner) (addr len : Nat) : HostSide :=
  let r : HostRead := { id := h.port.nextRead, owner := owner, addr := addr, len := len }
  if h.port.sent.length < Config.readPlaces then
    (h.setPort { h.port with
      nextRead := h.port.nextRead + 1
      sent := h.port.sent ++ [{ read := r, abandoned := false, bytes := List.replicate len none }] }).setOut
      (h.out ++ [.read r.id addr len])
  else h.setPort { h.port with nextRead := h.port.nextRead + 1, waiting := h.port.waiting ++ [r] }

/-- A block asks for host reads one after another; false at the first that fails the window check, and the rest are
then not asked for (R197). -/
def HostSide.askReads (h : HostSide) : List (Owner × Nat × Nat) → HostSide × Bool
  | [] => (h, true)
  | (owner, addr, len) :: rest =>
    if h.port.inWindow addr len then (h.placeRead owner addr len).askReads rest else (h, false)

/-- The oldest waiting reads take free places and are sent (R198); the first argument bounds their number. -/
def HostSide.sendWaiting : Nat → HostSide → HostSide
  | 0, h => h
  | k + 1, h =>
    match h.port.waiting with
    | [] => h
    | r :: rest =>
      if h.port.sent.length < Config.readPlaces then
        ((h.setPort { h.port with
          waiting := rest
          sent := h.port.sent ++ [{ read := r, abandoned := false, bytes := List.replicate r.len none }] }).setOut
          (h.out ++ [.read r.id r.addr r.len])).sendWaiting k
      else h

/-- The place of read `id` frees, and the oldest waiting read takes it (R198). -/
def HostSide.freePlace (h : HostSide) (id : Nat) : HostSide :=
  let h' := h.setPort { h.port with sent := h.port.sent.filter fun r => r.read.id != id }
  h'.sendWaiting h'.port.waiting.length

/-- Read `id` has ended: it keeps its place until its end has been handed to its requester, for whom it is outstanding no
longer (R198, log entry 16). -/
def HostSide.endRead (h : HostSide) (id : Nat) : HostSide :=
  h.setPort { h.port with sent := h.port.sent.map fun r => if r.read.id = id then { r with abandoned := true } else r }

/-- The reads that `f` names are abandoned (R198): a waiting one leaves the list, a sent one keeps its place. -/
def HostSide.abandonReads (h : HostSide) (f : Owner → Bool) : HostSide :=
  h.setPort { h.port with
    sent := h.port.sent.map fun r => if f r.read.owner then { r with abandoned := true } else r
    waiting := h.port.waiting.filter fun r => !f r.owner }

/-- Whether a read that `f` names is outstanding: waiting, or sent and not abandoned (R138). -/
def HostPort.outstanding (p : HostPort) (f : Owner → Bool) : Bool :=
  p.sent.any (fun r => !r.abandoned && f r.read.owner) || p.waiting.any (fun r => f r.owner)

/-- The reads of a record fetch. -/
def Owner.isFetch : Owner → Bool
  | .fetch _ => true
  | .slotList _ _ | .slotData _ _ _ | .image _ => false

/-- The reads of a tracker slot: list reads and WRITE data reads. -/
def Owner.ofSlot (n : SlotNo) : Owner → Bool
  | .slotList m _ => m == n
  | .slotData m _ _ => m == n
  | .fetch _ | .image _ => false

/-- The reads of a MAP LOAD image. -/
def Owner.isImage : Owner → Bool
  | .image _ => true
  | .fetch _ | .slotList _ _ | .slotData _ _ _ => false

/-- A posted host write, sent if it lies inside the window; false, and nothing written, if not (R197, R199). -/
def HostSide.postWrite (h : HostSide) (addr : Nat) (bytes : List Byte) : HostSide × Bool :=
  if h.port.inWindow addr bytes.length then (h.setOut (h.out ++ [.write addr bytes]), true) else (h, false)

/-- Posted writes at consecutive addresses, one for each entry; false at the first outside the window, and the rest
are then not made (R51, R95). -/
def HostSide.postRun (h : HostSide) (addr : Nat) : List (List Byte) → HostSide × Bool
  | [] => (h, true)
  | bytes :: rest =>
    match h.postWrite addr bytes with
    | (h', true) => h'.postRun (addr + bytes.length) rest
    | (h', false) => (h', false)

/-- Bytes of an answer part laid into what a place has received (R198); bytes outside the read are ignored (log
entry 16). -/
def fillBytes : List (Option Byte) → Nat → List Byte → List (Option Byte)
  | have_, _, [] => have_
  | [], _, _ => []
  | _ :: have_, 0, b :: bytes => some b :: fillBytes have_ 0 bytes
  | x :: have_, off + 1, bytes => x :: fillBytes have_ off bytes

/-- All bytes of a read, if every one has been received. -/
def allBytes : List (Option Byte) → Option (List Byte)
  | [] => some []
  | some b :: rest => (allBytes rest).map (b :: ·)
  | none :: _ => none

end Sys2Proof.Machine
end

