-- ==== Sys2Proof/Machine/Events.lean ====
section
/-! DEFINITION. The event unit: entering an event in the pending set (R188 to R191) and posting pending entries to the
event ring (R192, R193). -/

namespace Sys2Proof.Machine

/-- An entry with the event's key waits in the pending set (R190). -/
def EventUnit.hasKey (u : EventUnit) (e : Event) : Bool := u.entries.any fun en => en.event.key == e.key

/-- An enabled event finds a place in the pending set: its key matches an entry, or the set is not full (R190). -/
def EventUnit.accepts (u : EventUnit) (e : Event) : Bool :=
  u.hasKey e || decide (u.entries.length < Config.eventCapacity)

/-- An enabled event reaches the pending set: it is folded into the entry with its key, joins as newest, or is lost
with the overflow flag set (R190, R191). -/
def EventUnit.enter (u : EventUnit) (e : Event) : EventUnit :=
  if u.hasKey e then
    { u with entries := u.entries.map fun en =>
        if en.event.key = e.key then { event := e, count := min 255 (en.count + 1) } else en }
  else if u.entries.length < Config.eventCapacity then
    { u with entries := u.entries ++ [{ event := e, count := 1 }] }
  else { u with overflow := true }

/-- An event reaches the event unit by the enable of its kind (R188), without the look for a posting. -/
def EventUnit.take (u : EventUnit) (e : Event) : EventUnit := if e.enabled u.enables then u.enter e else u

/-- The event ring can take a posting: ACTIVE, with room (R192). -/
def EvRing.hasRoom (r : EvRing) : Bool := r.state == .active && decide (r.unconsumed < r.size)

/-- The event ring after a record has been written at its tail (R153, R166). -/
def EvRing.posted (r : EvRing) : EvRing :=
  { r with tail := (r.tail + 1) % r.size, lap := if r.tail + 1 = r.size then !r.lap else r.lap,
           unconsumed := r.unconsumed + 1, armed := r.armed && !r.intEn }

/-- The interrupt message of a posting, if the ring is enabled and armed (R166). -/
def interruptFor (intEn armed : Bool) (vector : Nat) : List LinkMsg :=
  if intEn && armed then [.interrupt vector] else []

/-- Pending entries are written to the event ring, oldest first, while it has room (R192). A posting outside the window
is refused: the entry stays, the ring becomes FAULTED and its QUEUE_FAULT enters the set (R193). The first argument
bounds the number of postings. -/
def HostSide.postEvents : Nat → HostSide → HostSide
  | 0, h => h
  | k + 1, h =>
    match h.events.entries with
    | [] => h
    | en :: rest =>
      let r := h.engine.eq
      if r.hasRoom then
        if h.port.inWindow (r.base + 32 * r.tail) 32 then
          (((h.setOut (h.out ++ .write (r.base + 32 * r.tail) (eventRecord en r.lap h.events.overflow)
            :: interruptFor r.intEn r.armed r.vector)).setEq r.posted).setEvents
            { h.events with entries := rest, overflow := false }).postEvents k
        else
          (h.setEq { r with state := .faulted }).setEvents (h.events.take (.queueFault .event 0 .postFailed))
      else h

/-- An event is raised (R188 to R193): it enters the pending set if its kind is enabled, and an event entered looks for
a posting. -/
def HostSide.raise (h : HostSide) (e : Event) : HostSide :=
  if e.enabled h.events.enables then
    let h' := h.setEvents (h.events.enter e)
    if h.events.accepts e then h'.postEvents h'.events.entries.length else h'
  else h

/-- Events raised in order. -/
def HostSide.raiseAll (h : HostSide) (es : List Event) : HostSide := es.foldl HostSide.raise h

end Sys2Proof.Machine
end

