-- ==== Sys2Proof/Machine/Rings.lean ====
section
/-! DEFINITION. The queue engine: positions written by the host (R150, R152), posting of completions (R153, R161) and
the fetch arbiter's choice (R155 to R157). -/

namespace Sys2Proof.Machine

/-! ## Posting completions (R153, R161) -/

/-- A completion ring after a record has been written at its tail: the reservation becomes an unconsumed record (R153,
R154, R166). -/
def Cq.posted (q : Cq) : Cq :=
  { q with tail := (q.tail + 1) % q.size, lap := if q.tail + 1 = q.size then !q.lap else q.lap,
           unconsumed := q.unconsumed + 1, reserved := q.reserved - 1, armed := q.armed && !q.intEn }

/-- A completion is handed to the queue engine (R161): posted on an ACTIVE ring, discarded on a FAULTED one; a posting
outside the window faults the ring. -/
def HostSide.handOver (h : HostSide) (c : Completion) : HostSide :=
  let n := (h.rq c.ring).cq
  let q := h.cq n
  match q.state with
  | .active =>
    if h.port.inWindow (q.base + 32 * q.tail) 32 then
      (h.setOut (h.out ++ .write (q.base + 32 * q.tail) (completionRecord c (h.rq c.ring).head q.lap)
        :: interruptFor q.intEn q.armed q.vector)).setCq n q.posted
    else (h.setCq n { q with state := .faulted, reserved := q.reserved - 1 }).raise
      (.queueFault .completion n .postFailed)
  | .faulted => h.setCq n { q with reserved := q.reserved - 1 }
  | .absent => h

/-- The configuration unit hands over its command's completion and is IDLE (R170, R172). -/
def HostSide.completeCommand (h : HostSide) (id : BitVec 16) (status : Status) (result : Nat) : HostSide :=
  (h.setConfig .idle).handOver (commandCompletion id status result)

/-! ## Positions (R150, R152) -/

/-- The host writes RQ TAIL[n] (R150). -/
def HostSide.writeTail (h : HostSide) (n : RingId) (value : BitVec 32) : HostSide :=
  let r := h.rq n
  if r.state = .active then
    if value.toNat < r.size then h.setRq n { r with tail := value.toNat }
    else (h.setRq n { r with state := .faulted }).raise (.queueFault .request n .positionInvalid)
  else h

/-- The number of records that a head write of `value` consumes (R152). -/
def consumed (value head size : Nat) : Nat := (value + size - head) % size

/-- The host writes CQ HEAD[n] (R152). -/
def HostSide.writeCqHead (h : HostSide) (n : RingId) (value : BitVec 32) : HostSide :=
  let q := h.cq n
  if q.state = .active then
    if value.toNat < q.size ∧ consumed value.toNat q.head q.size ≤ q.unconsumed then
      h.setCq n { q with head := value.toNat, unconsumed := q.unconsumed - consumed value.toNat q.head q.size,
                         armed := true }
    else (h.setCq n { q with state := .faulted }).raise (.queueFault .completion n .positionInvalid)
  else h

/-- The host writes EQ HEAD (R152); freed places are looked at for postings at once (R192). -/
def HostSide.writeEqHead (h : HostSide) (value : BitVec 32) : HostSide :=
  let q := h.engine.eq
  if q.state = .active then
    let k := consumed value.toNat q.head q.size
    if value.toNat < q.size ∧ k ≤ q.unconsumed then
      let h' := h.setEq { q with head := value.toNat, unconsumed := q.unconsumed - k, armed := true }
      if k = 0 then h' else h'.postEvents h'.events.entries.length
    else (h.setEq { q with state := .faulted }).raise (.queueFault .event 0 .positionInvalid)
  else h

/-! ## The fetch arbiter (R155 to R157) -/

/-- Pending records of a request ring (R150). -/
def Rq.pendingCount (r : Rq) : Nat := (r.tail + r.size - r.head) % r.size

/-- Free credit of a completion ring (R154). -/
def Cq.freeCredit (q : Cq) : Nat := q.size - (q.unconsumed + q.reserved)

/-- Slot `n` is available: FREE, with every operation it has issued come back (R129). -/
def Tracker.available (t : Tracker) (n : SlotNo) : Bool := (t.slot? n).isNone && t.outstanding[n] == 0

/-- The available slots in ascending order. -/
def Tracker.availableSlots (t : Tracker) : List SlotNo := (List.finRange 256).filter t.available

/-- Slots a fetch may still reserve (R128). -/
def Tracker.reservable (t : Tracker) : Nat := t.availableSlots.length - t.reserved

/-- A ring's conditions that RQ0 and data rings share: ACTIVE with a pending record, its completion ring ACTIVE with
free credit (R155, R156). -/
def HostSide.canFetch (h : HostSide) (n : RingId) : Bool :=
  let r := h.rq n
  let q := h.cq r.cq
  r.state == .active && decide (0 < r.pendingCount) && q.state == .active && decide (0 < q.freeCredit)

/-- RQ0 is eligible (R155). -/
def HostSide.rq0Eligible (h : HostSide) : Bool := h.canFetch 0 && h.config == .idle

/-- Data ring `n` is eligible (R156). -/
def HostSide.dataEligible (h : HostSide) (n : RingId) : Bool := h.canFetch n && decide (0 < h.tracker.reservable)

/-- The order of the arbiter's search: after the round-robin position up to 31, then from 1 up to it (R156). -/
def searchOrder (position : RingId) : List RingId :=
  ((List.finRange 32).filter fun n => position < n) ++ ((List.finRange 32).filter fun n => 0 < n ∧ n ≤ position)

/-- The ring the arbiter serves, if any is eligible (R155, R156). -/
def HostSide.served (h : HostSide) : Option RingId :=
  if h.rq0Eligible then some 0 else (searchOrder h.engine.position).find? h.dataEligible

/-- How many records a fetch from ring `n` reads (R157). -/
def HostSide.fetchCount (h : HostSide) (n : RingId) : Nat :=
  let r := h.rq n
  let credit := (h.cq r.cq).freeCredit
  if n = 0 then min 1 (min r.pendingCount credit)
  else min r.burst (min r.pendingCount (min credit h.tracker.reservable))

/-- The host reads of a fetch of `n` records (R157): one run, or two where the places cross the end of the ring. -/
def Rq.fetchReads (r : Rq) (n : Nat) : List (Owner × Nat × Nat) :=
  let run := min n (r.size - r.head)
  ((splitReads (64 * run) (r.base + 64 * r.head) 0 (64 * run))
    ++ splitReads (64 * (n - run)) r.base (64 * run) (64 * (n - run))).map
      fun x => (Owner.fetch (x.2.1 / 64), x.1, x.2.2)

/-- The reservations at the start of a fetch of `n` records from ring `i` (R157): credits, slots for a data ring, the
fetch in flight mark, and the round-robin position for a data ring (R156). -/
def HostSide.reserveFetch (h : HostSide) (i : RingId) (n : Nat) : HostSide :=
  let r := h.rq i
  let q := h.cq r.cq
  let h1 := (h.setCq r.cq { q with reserved := q.reserved + n }).setRq i { r with inFlight := true }
  let h2 := h1.setFetch (some { ring := i, handed := 0, recs := List.replicate n none })
  if i = 0 then h2
  else (h2.setEngine { h2.engine with position := i }).setTracker
    { h2.tracker with reserved := h2.tracker.reserved + n }

end Sys2Proof.Machine
end

