-- ==== Sys2Proof/Machine/Tracker.lean ====
section
/-! DEFINITION. The request tracker: intake (R109 to R112, R128), lists and host data (R132, R136, R138), the next
operation of a slot (R133, R135), the gathering of results (R137, R139), completion, freeing and fences (R130, R140,
R141), abort and drain (R142, R143). -/

namespace Sys2Proof.Machine

/-! ## Requests -/

/-- Touched granules of [A, A + L) (R108). -/
def DataReq.count (q : DataReq) : Nat := touchedCount q.a q.len

/-- Touched granules of [B, B + L) (R108, R116). -/
def DataReq.destCount (q : DataReq) : Nat := touchedCount q.b q.len

/-- The request reads a buffer list: READ or WRITE with LIST set (R105). -/
def DataReq.needsList (q : DataReq) : Bool := q.useList && (q.kind == .read || q.kind == .write)

/-- Check 3 of R109 fails (R111). -/
def DataReq.rangeBad (q : DataReq) : Bool :=
  decide (q.len < 8) || decide (16777216 < q.len) || decide (q.len % 8 ≠ 0) || decide (q.a % 8 ≠ 0)
    || decide (2 ^ 35 < q.a + q.len)
    || (q.kind == .copy && (decide (q.b % 8 ≠ 0) || decide (2 ^ 35 < q.b + q.len)))

/-- Check 4 of R109 fails: the ranges of a COPY share a byte (R111). -/
def DataReq.overlaps (q : DataReq) : Bool :=
  q.kind == .copy && decide (q.a < q.b + q.len) && decide (q.b < q.a + q.len)

/-- Check 5 of R109 fails (R112). -/
def DataReq.listBad (q : DataReq) : Bool := q.needsList && (decide (q.listCount < 1) || decide (256 < q.listCount))

/-- Check 6 of R109 fails: an occupied slot holds a request of the same ring with the same id (R112, R131). -/
def Tracker.duplicate (t : Tracker) (ring : RingId) (id : BitVec 16) : Bool :=
  t.slots.any fun s => s.ring == ring && s.req.id == id

/-- The refusal of checks 2 to 6 of R109, the first that fails. -/
def DataReq.refusal? (q : DataReq) (ps : PoolState) (t : Tracker) (ring : RingId) : Option Status :=
  if !ps.serving then some .poolNotReady
  else if q.rangeBad then some .badRange
  else if q.overlaps then some .overlap
  else if q.listBad then some .badList
  else if t.duplicate ring q.id then some .duplicateId
  else none

/-- A slot at its occupation, before its state is set (R128). Next to issue is the first granule of the range (R133); in a COPY,
whose operations R135 picks by source cursor and ready list, nothing reads it (log entry 32). -/
def Slot.fresh (n : SlotNo) (tag : SlotTag) (ring : RingId) (q : DataReq) (state : SlotState) : Slot :=
  { num := n, tag := tag, ring := ring, req := q, state := state, listPieces := [], list := [], next := some 0,
    askNext := 0, staging := [], held := none, issued := 0, ended := 0, done := 0, corrected := 0, tainted := 0,
    failAddr := none, channelFailed := false, hostAccess := false, listMismatch := false, aborted := false,
    copy := { source := 0, kept := [], ready := [], done := 0 } }

/-! ## Host data (R132, R136, R138) -/

/-- Issue stops: no next granule, held operation, staging and ready list dropped; a slot not yet AWAITING enters
AWAITING (R138, R142). -/
def Slot.stop (s : Slot) : Slot :=
  { s with
    next := none, held := none, staging := [], copy := { s.copy with kept := [], ready := [] }
    state := match s.state with
      | .fenced | .loadingList | .issuing | .awaiting => .awaiting
      | .completing => .completing }

/-- The first failed host access of a slot (R120, R132, R138); a later failure changes nothing. -/
def HostSide.failSlot (h : HostSide) (n : SlotNo) : HostSide :=
  match h.tracker.slot? n with
  | none => h
  | some s =>
    if s.hostAccess then h
    else (h.abandonReads (Owner.ofSlot n)).modifySlot n fun s => { s.stop with hostAccess := true }

/-- The host reads of a touched granule's request bytes (R136). -/
def Slot.dataReads (s : Slot) (g : Nat) : List (Owner × Nat × Nat) :=
  let lo := touchedLo s.req.a g
  (splitSegments (s.req.segments s.list (lo - s.req.a) (touchedHi s.req.a s.req.len g - lo)) 0).map
    fun x => (Owner.slotData s.num g x.2.1, x.1, x.2.2)

/-- The slot asks for the bytes of a further granule: an ISSUING WRITE with a staging place free (R136). -/
def Slot.wantsData (s : Slot) : Bool :=
  s.state == .issuing && s.req.kind == .write && decide (s.staging.length < Config.stagingPlaces)
    && decide (s.askNext < s.req.count)

/-- A slot asks for granules ahead of issue while staging places are free (R136); the first argument bounds their
number. -/
def HostSide.stage : Nat → SlotNo → HostSide → HostSide
  | 0, _, h => h
  | k + 1, n, h =>
    match h.tracker.slot? n with
    | none => h
    | some s =>
      if s.wantsData then
        match (h.modifySlot n fun s => { s with staging := s.staging ++ [{ gran := s.askNext, pieces := [] }],
                                                askNext := s.askNext + 1 }).askReads (s.dataReads s.askNext) with
        | (h', true) => h'.stage k n
        | (h', false) => h'.failSlot n
      else h

/-- A slot enters ISSUING (R127), and a WRITE asks for its first granules. -/
def HostSide.beginIssue (h : HostSide) (n : SlotNo) : HostSide :=
  (h.modifySlot n fun s => { s with state := .issuing }).stage Config.stagingPlaces n

/-- The host reads of a buffer list (R132). -/
def Slot.listReads (s : Slot) : List (Owner × Nat × Nat) :=
  let len := 16 * s.req.listCount
  (splitReads len s.req.host 0 len).map fun x => (Owner.slotList s.num x.2.1, x.1, x.2.2)

/-- A slot that waits for no fence goes on: to LOADING_LIST with its list reads asked for, or to ISSUING (R128, R130,
R132). -/
def HostSide.beginWork (h : HostSide) (n : SlotNo) : HostSide :=
  match h.tracker.slot? n with
  | none => h
  | some s =>
    if s.req.needsList then
      match (h.modifySlot n fun s => { s with state := .loadingList }).askReads s.listReads with
      | (h', true) => h'
      | (h', false) => h'.failSlot n
    else h.beginIssue n

/-! ## Completion, freeing, fences and drain (R130, R140, R141, R143, R176) -/

/-- A slot has its completion to build or to hand over: AWAITING with every issued operation ended and no host read
outstanding, or COMPLETING (R140). -/
def HostSide.slotReady (h : HostSide) (s : Slot) : Bool :=
  (s.state == .awaiting && s.ended == s.issued && !h.port.outstanding (Owner.ofSlot s.num)) || s.state == .completing

/-- A FENCED slot of a ring none of whose earlier slots is occupied is released (R130). -/
def HostSide.releaseFence (h : HostSide) (ring : RingId) : HostSide :=
  match h.tracker.slots.find? fun s => s.ring == ring with
  | some s => if s.state = .fenced then h.beginWork s.num else h
  | none => h

/-- A slot becomes FREE (R141), and the fence it held back is released (R130). -/
def HostSide.freeSlot (h : HostSide) (s : Slot) : HostSide :=
  (h.setTracker { h.tracker with slots := h.tracker.slots.filter fun x => x.num != s.num }).releaseFence s.ring

/-- A slot builds its completion, enters COMPLETING, hands the record over and is freed when the queue engine has
written or discarded it (R140, R141, R161). -/
def HostSide.completeSlot (h : HostSide) (s : Slot) : HostSide :=
  ((h.modifySlot s.num fun x => { x with state := .completing }).handOver s.completion).freeSlot s

/-- Slots that have ended complete, in intake order (log entry 8); the first argument bounds their number. -/
def HostSide.settleSlots : Nat → HostSide → HostSide
  | 0, h => h
  | k + 1, h =>
    match h.tracker.slots.find? h.slotReady with
    | none => h
    | some s => (h.completeSlot s).settleSlots k

/-- The ring has no occupied slot and no reserved slot (R143). -/
def HostSide.drained (h : HostSide) (ring : RingId) : Bool :=
  !(h.tracker.slots.any fun s => s.ring == ring)
    && !(h.engine.fetch.any fun f => f.ring == ring && !f.recs.isEmpty)

/-- A DRAINING request ring becomes ABSENT, and its completion ring's bound request ring count falls by one (R148). -/
def HostSide.removeRq (h : HostSide) (n : RingId) : HostSide :=
  let c := (h.rq n).cq
  let q := h.cq c
  (h.setCq c { q with bound := q.bound - 1 }).setRq n Rq.absent

/-- The drain of a QUEUE DELETE ends when its ring is drained: the ring goes and the command completes (R176). -/
def HostSide.endDrain (h : HostSide) : HostSide :=
  match h.config with
  | .drainWait id ring count => if h.drained ring then (h.removeRq ring).completeCommand id .ok count else h
  | .idle | .executing _ _ _ => h

/-- What follows at once from the ending of slots' work: completions, freed slots, released fences, the end of a
drain. -/
def HostSide.settle (h : HostSide) : HostSide := (h.settleSlots h.tracker.slots.length).endDrain

/-! ## Intake (R109, R128, R171) -/

/-- A record that passes intake occupies the lowest-numbered available slot (R128). -/
def HostSide.occupy (h : HostSide) (ring : RingId) (q : DataReq) : HostSide :=
  match h.tracker.availableSlots with
  | [] => h
  | n :: _ =>
    let tag := h.tracker.tags[n] + 1
    let fenced := q.fence && h.tracker.slots.any fun s => s.ring == ring
    let s := Slot.fresh n tag ring q (if fenced then .fenced else .issuing)
    let h' := h.setTracker { h.tracker with slots := h.tracker.slots ++ [s], tags := h.tracker.tags.set n tag }
    if fenced then h' else h'.beginWork n

/-- A record of a data ring is taken at intake (R109, R113, R128): its slot reservation is used or returned. -/
def HostSide.takeRecord (h : HostSide) (ps : PoolState) (ring : RingId) (r : Block) : HostSide :=
  let h1 := h.setTracker { h.tracker with reserved := h.tracker.reserved - 1 }
  match dataReqOf? r with
  | none => h1.handOver (refusal (recordId r) ring .badKind)
  | some q =>
    match q.refusal? ps h.tracker ring with
    | some st => h1.handOver (refusal q.id ring st)
    | none => h1.occupy ring q

/-- A record of RQ0 is taken by the configuration unit: refused with BAD_KIND, or held as a command (R171). -/
def HostSide.takeCommand (h : HostSide) (r : Block) : HostSide :=
  match configCmdOf? r with
  | none => h.handOver (refusal (recordId r) 0 .badKind)
  | some c => h.setConfig (.executing (recordId r) c none)

/-! ## The next operation of a slot (R133, R135) -/

/-- The operation at a pool address (R3). -/
def Stride.opAt (st : Stride) (addr : Nat) (kind : OpKind) (issuer : Issuer) : BankOp :=
  { kind := kind, issuer := issuer, bank := st.bankOf addr, row := st.rowOf addr, gran := st.granOf addr }

/-- WRITE for a whole touched granule, MERGE with its word mask for a partial one (R115, R118). -/
def storeKind (p len k : Nat) (data : Block) : OpKind :=
  if touchedWhole p len k then .write data else .merge (touchedMask p len k) data

/-- The bytes staged for touched granule `k`, once all have arrived (R136). -/
def Slot.stagedBytes? (s : Slot) (k : Nat) : Option (List Byte) :=
  (s.staging.find? fun x => x.gran == k).bind fun x =>
    let bytes := pieceBytes x.pieces
    if bytes.length = touchedHi s.req.a s.req.len k - touchedLo s.req.a k then some bytes else none

/-- The operation a slot offers: the next granule of its range with its data present, or for a COPY the lowest ready
destination operation, else the next source READ (R133, R135, R136). -/
def Slot.nextOp? (s : Slot) (st : Stride) : Option BankOp :=
  let iss := Issuer.slot s.num s.tag
  match s.req.kind with
  | .read => s.next.map fun k => st.opAt (touchedBase s.req.a k) .read iss
  | .verify => s.next.map fun k => st.opAt (touchedBase s.req.a k) .check iss
  | .fill => s.next.map fun k =>
      let data := patternBlock s.req.pattern
      st.opAt (touchedBase s.req.a k) (storeKind s.req.a s.req.len k data) iss
  | .write => s.next.bind fun k => (s.stagedBytes? k).map fun bytes =>
      let data := placedBytes (touchedLo s.req.a k - touchedBase s.req.a k) bytes
      st.opAt (touchedBase s.req.a k) (storeKind s.req.a s.req.len k data) iss
  | .copy =>
    match s.copy.ready with
    | (j, kind) :: _ => some (st.opAt (touchedBase s.req.b j) kind iss)
    | [] =>
      if s.copy.source < s.req.count then some (st.opAt (touchedBase s.req.a s.copy.source) .read iss) else none

/-- A COPY operation at the destination: every operation of a COPY but its source READs (R116). -/
def Slot.isDest (s : Slot) (op : BankOp) : Bool := s.req.kind == .copy && op.kind != .read

/-- Every operation the slot will issue has been issued, or found not to be (R127, R135); for a COPY next to issue is not asked
(log entry 32). -/
def Slot.allIssued (s : Slot) : Bool :=
  if s.req.kind = .copy then s.copy.source == s.req.count && s.copy.done == s.req.destCount
  else s.next.isNone

/-- An ISSUING slot with nothing left to issue enters AWAITING (R127). -/
def Slot.checkIssued (s : Slot) : Slot :=
  if s.state = .issuing ∧ s.allIssued = true then { s with state := .awaiting } else s

/-- The slot after a bank has taken its operation (R133 to R136). An issue of a COPY moves the source cursor or the ready list
and leaves next to issue as it is, the model's choice (log entry 32). -/
def Slot.afterIssue (s : Slot) (st : Stride) (op : BankOp) : Slot :=
  let s1 := { s with issued := s.issued + 1, held := none }
  let s2 : Slot :=
    if s.isDest op then
      let j := st.address op.bank op.row op.gran 0 / 64 - s.req.b / 64
      { s1 with copy := { s.copy with ready := s.copy.ready.filter fun x => x.1 != j, done := s.copy.done + 1 } }
    else if s.req.kind = .copy then { s1 with copy := { s.copy with source := s.copy.source + 1 } }
    else
      match s.next with
      | none => s1
      | some k => { s1 with next := if k + 1 < s.req.count then some (k + 1) else none
                            staging := s.staging.filter fun x => x.gran != k }
  s2.checkIssued

/-- An operation of slot `n` leaves for its bank: it is counted as issued and not come back (R129), the slot goes on,
and a WRITE asks for the granule whose staging place is freed (R136). -/
def HostSide.issued (h : HostSide) (st : Stride) (n : SlotNo) (op : BankOp) : HostSide :=
  let h1 := h.setTracker { h.tracker with
    outstanding := h.tracker.outstanding.set n (h.tracker.outstanding[n] + 1), opsOut := h.tracker.opsOut + 1 }
  (h1.modifySlot n fun s => s.afterIssue st op).stage Config.stagingPlaces n

/-! ## Results (R135, R137, R139) -/

/-- Destination granules that a COPY source granule feeds (R116). -/
def DataReq.feeds (q : DataReq) (k : Nat) : List Nat :=
  let first := (q.b + (touchedLo q.a k - q.a)) / 64 - q.b / 64
  let last := (q.b + (touchedHi q.a q.len k - q.a) - 1) / 64 - q.b / 64
  if first = last then [first] else [first, last]

/-- Source granules that feed a COPY destination granule (R116). -/
def DataReq.feeders (q : DataReq) (j : Nat) : List Nat :=
  let first := (q.a + (touchedLo q.b j - q.b)) / 64 - q.a / 64
  let last := (q.a + (touchedHi q.b q.len j - q.b) - 1) / 64 - q.a / 64
  if first = last then [first] else [first, last]

/-- The source bytes of a COPY destination granule, by words, from the kept source results (R116). -/
def DataReq.destData (q : DataReq) (kept : List Kept) (j : Nat) : Block :=
  blockOfWords fun w =>
    let d := touchedBase q.b j + 8 * w
    if q.b ≤ d ∧ d < q.b + q.len then
      let a := d - q.b + q.a
      match kept.find? fun x => x.gran == a / 64 - q.a / 64 with
      | some x => blockWord x.data (a % 64 / 8)
      | none => 0
    else 0

/-- The ready list kept in ascending destination order (R135). -/
def insertReady (x : Nat × OpKind) : List (Nat × OpKind) → List (Nat × OpKind)
  | [] => [x]
  | y :: rest => if x.1 < y.1 then x :: y :: rest else y :: insertReady x rest

/-- A destination granule is decided once all its feeders have ended: its operation by R117 joins the ready list, or it
is found not to be issued (R135). Kept bytes that feed nothing further are released. -/
def Slot.decideDest (s : Slot) (j : Nat) : Slot :=
  let feeders := s.req.feeders j
  let ks := s.copy.kept.filter fun x => feeders.contains x.gran
  if feeders.all fun k => ks.any fun x => x.gran == k then
    let kept := (s.copy.kept.map fun x => { x with feeds := x.feeds.filter fun i => i != j }).filter
      fun x => !x.feeds.isEmpty
    if ks.any fun x => x.result == .channelFailed then
      { s with copy := { s.copy with kept := kept, done := s.copy.done + 1 } }
    else
      let kind : OpKind :=
        if ks.any fun x => x.result == .tainted then .mark
        else storeKind s.req.b s.req.len j (s.req.destData s.copy.kept j)
      { s with copy := { s.copy with kept := kept, ready := insertReady (j, kind) s.copy.ready } }
  else s

/-- A COPY source READ has ended: its result is kept for the destination granules it feeds, and those now fed are
decided (R135). -/
def Slot.keepSource (s : Slot) (k : Nat) (result : OpResult) (data : Block) : Slot :=
  let feeds := s.req.feeds k
  let s1 := { s with copy := { s.copy with
    kept := s.copy.kept ++ [{ gran := k, result := result, data := data, feeds := feeds }] } }
  (feeds.foldl Slot.decideDest s1).checkIssued

/-- The address of an operation's granule (R108, R122): its lowest pool address in the range the operation is for. -/
def Slot.opAddress (s : Slot) (st : Stride) (op : BankOp) : Nat :=
  max (if s.isDest op then s.req.b else s.req.a) (st.address op.bank op.row op.gran 0)

/-- The running results after a result (R122, R139). -/
def Slot.count (s : Slot) (addr : Nat) (result : OpResult) : Slot :=
  let fails := result == .tainted || result == .channelFailed
  { s with
    ended := s.ended + 1
    done := s.done + bit (result != .channelFailed)
    corrected := s.corrected + bit (result == .corrected)
    tainted := s.tainted + bit (result == .tainted)
    channelFailed := s.channelFailed || result == .channelFailed
    failAddr := if fails then some (match s.failAddr with | none => addr | some a => min a addr) else s.failAddr }

/-- The posted writes of a granule's bytes, one for each buffer (R137): buffer addresses with their bytes. They are made in
list order, which R137 leaves open (log entry 26). -/
def cutBytes : List (Nat × Nat) → List Byte → List (Nat × List Byte)
  | [], _ => []
  | (a, n) :: rest, bytes => (a, bytes.take n) :: cutBytes rest (bytes.drop n)

/-- The posted writes of an ended READ operation (R114, R137). -/
def Slot.delivery (s : Slot) (addr : Nat) (data : Block) : List (Nat × List Byte) :=
  let base := addr / 64 * 64
  let len := min (s.req.a + s.req.len) (base + 64) - addr
  cutBytes (s.req.segments s.list (addr - s.req.a) len) (blockBytes data (addr - base) len)

/-- READ bytes are written to the host buffers; the first write outside the window is the slot's HOST_ACCESS, and no
further bytes are written (R120, R137, R138). First is by the order of the writes, the model's own (log entry 26). -/
def HostSide.deliver (h : HostSide) (n : SlotNo) : List (Nat × List Byte) → HostSide
  | [] => h
  | (a, bytes) :: rest =>
    match h.postWrite a bytes with
    | (h', true) => h'.deliver n rest
    | (h', false) => h'.failSlot n

/-- A result that belongs to an occupied slot is gathered (R139). -/
def HostSide.gather (h : HostSide) (st : Stride) (s : Slot) (e : OpEnd) : HostSide :=
  let addr := s.opAddress st e.op
  let h1 :=
    if s.req.kind = .read ∧ e.result ≠ .channelFailed ∧ s.hostAccess = false ∧ s.aborted = false then
      h.deliver s.num (s.delivery addr e.data)
    else h
  let h2 := h1.modifySlot s.num fun x => x.count addr e.result
  if s.req.kind = .copy ∧ e.op.kind = .read ∧ s.state = .issuing then
    h2.modifySlot s.num fun x => x.keepSource (addr / 64 - s.req.a / 64) e.result e.data
  else h2

/-- The result of a tracker operation comes back (R129): it is counted back, and gathered if its slot is occupied with
its tag, else discarded. -/
def HostSide.resultBack (h : HostSide) (st : Stride) (e : OpEnd) : HostSide :=
  match e.op.issuer with
  | .slot n tag =>
    let h1 := h.setTracker { h.tracker with
      outstanding := h.tracker.outstanding.set n (h.tracker.outstanding[n] - 1), opsOut := h.tracker.opsOut - 1 }
    match h.tracker.slot? n with
    | some s => if s.tag = tag then h1.gather st s e else h1
    | none => h1
  | .format | .scrub | .migration => h

/-! ## Abort (R142) -/

/-- The abort mark on a slot of the ring, by its state (R142). -/
def Slot.abort (s : Slot) : Slot := if s.state = .completing then s else { s.stop with aborted := true }

/-- Every occupied slot of a ring is aborted, and their host reads are abandoned (R142). -/
def HostSide.abortRing (h : HostSide) (ring : RingId) : HostSide :=
  let hit := h.tracker.slots.filter fun s => s.ring == ring && s.state != .completing
  let h1 := h.abandonReads fun o => hit.any fun s => o.ofSlot s.num
  h1.setTracker { h1.tracker with slots := h1.tracker.slots.map fun s => if s.ring = ring then s.abort else s }

/-- Slots of a ring that an abort makes complete ABORTED (R176). -/
def Tracker.abortCount (t : Tracker) (ring : RingId) : Nat :=
  (t.slots.filter fun s => s.ring == ring && s.state != .completing).length

end Sys2Proof.Machine
end

