-- ==== Sys2Proof/Machine/Fetch.lean ====
section
/-! DEFINITION. Record fetches (R157 to R159), and what the requester of a host read does with its data or its failure:
the queue engine, the tracker (R132, R136) and, for a MAP LOAD image, the configuration unit (R52). -/

namespace Sys2Proof.Machine

/-! ## Record fetches -/

/-- The fetch ends, in success or in failure: its ring's mark is cleared (R158, R159). -/
def HostSide.clearFetch (h : HostSide) (ring : RingId) : HostSide :=
  (h.setRq ring { h.rq ring with inFlight := false }).setFetch none

/-- Records whose bytes have arrived are handed to intake in ring order, the head advancing at each (R151, R158); the
fetch ends at its last. The first argument bounds the hand-overs. -/
def HostSide.handRecords (ps : PoolState) : Nat → HostSide → HostSide
  | 0, h => h
  | k + 1, h =>
    match h.engine.fetch with
    | none => h
    | some f =>
      match f.recs with
      | [] => (h.clearFetch f.ring).settle
      | none :: _ => h
      | some r :: rest =>
        let q := h.rq f.ring
        let h1 := (h.setRq f.ring { q with head := (q.head + 1) % q.size }).setFetch
          (some { f with handed := f.handed + 1, recs := rest })
        let h2 := if f.ring = 0 then h1.takeCommand r else h1.takeRecord ps f.ring r
        HostSide.handRecords ps k h2.settle

/-- Records laid into the places of a fetch from index `i` (R158). -/
def fillRecords : List (Option Block) → Nat → List Block → List (Option Block)
  | places, _, [] => places
  | [], _, _ => []
  | _ :: places, 0, r :: rs => some r :: fillRecords places 0 rs
  | x :: places, i + 1, rs => x :: fillRecords places i rs

/-- The records in bytes, `n` of them. -/
def recordsOf : Nat → List Byte → List Block
  | 0, _ => []
  | n + 1, bytes => blockOfBytes (bytes.take 64) :: recordsOf n (bytes.drop 64)

/-- The bytes of a fetch read arrive (R158): `first` is the number in the fetch of the first record they hold. -/
def HostSide.fetchData (h : HostSide) (ps : PoolState) (first : Nat) (bytes : List Byte) : HostSide :=
  match h.engine.fetch with
  | none => h
  | some f =>
    let recs := fillRecords f.recs (first - f.handed) (recordsOf (bytes.length / 64) bytes)
    HostSide.handRecords ps (recs.length + 1) (h.setFetch (some { f with recs := recs }))

/-- A host read of the fetch fails (R159): records not handed over are given up with their reservations, other reads
are abandoned, an ACTIVE ring becomes FAULTED, and QUEUE_FAULT is raised unless the ring was FAULTED already (R165). -/
def HostSide.failFetch (h : HostSide) : HostSide :=
  match h.engine.fetch with
  | none => h
  | some f =>
    let r := h.rq f.ring
    let q := h.cq r.cq
    let n := f.recs.length
    let h1 := (h.abandonReads Owner.isFetch).setCq r.cq { q with reserved := q.reserved - n }
    let h2 := if f.ring = 0 then h1 else h1.setTracker { h1.tracker with reserved := h1.tracker.reserved - n }
    let h3 := (h2.setRq f.ring { r with state := if r.state = .active then .faulted else r.state }).clearFetch f.ring
    let h4 := if r.state = .faulted then h3 else h3.raise (.queueFault .request f.ring .fetchFailed)
    h4.settle

/-- The arbiter starts a fetch if none is in flight and a ring is eligible (R155 to R157, R197). -/
def HostSide.startFetch (h : HostSide) : HostSide :=
  match h.engine.fetch, h.served with
  | none, some i =>
    let n := h.fetchCount i
    match (h.reserveFetch i n).askReads ((h.rq i).fetchReads n) with
    | (h', true) => h'
    | (h', false) => h'.failFetch
  | some _, _ => h
  | none, none => h

/-! ## Lists and WRITE data -/

/-- The whole buffer list of slot `n` has arrived: it is judged, and the slot enters ISSUING or ends LIST_MISMATCH
(R107, R132). -/
def HostSide.judgeList (h : HostSide) (n : SlotNo) : HostSide :=
  match h.tracker.slot? n with
  | none => h
  | some s =>
    let es := listEntries s.req.listCount (pieceBytes s.listPieces)
    if listConsistent es s.req.len then (h.modifySlot n fun s => { s with list := es, listPieces := [] }).beginIssue n
    else h.modifySlot n fun s => { s.stop with listMismatch := true }

/-- Bytes of a buffer list arrive (R132); the list is judged when none of its reads is outstanding. -/
def HostSide.listData (h : HostSide) (n : SlotNo) (off : Nat) (bytes : List Byte) : HostSide :=
  let h1 := h.modifySlot n fun s => { s with listPieces := insertPiece { offset := off, bytes := bytes } s.listPieces }
  if h1.port.outstanding (Owner.ofSlot n) then h1 else (h1.judgeList n).settle

/-- Bytes of a staged granule arrive (R136). -/
def HostSide.stagedData (h : HostSide) (n : SlotNo) (g off : Nat) (bytes : List Byte) : HostSide :=
  h.modifySlot n fun s => { s with staging := s.staging.map fun x =>
    if x.gran = g then { x with pieces := insertPiece { offset := off, bytes := bytes } x.pieces } else x }

end Sys2Proof.Machine
end

