-- ==== Sys2Proof/Machine/Delivery.lean ====
section
/-! DEFINITION. Between the two sides: an operation that leaves its slot for its bank (R38, R134), the admission of held
operations, and the delivery of what a step of the pool side raised and ended (R27, R139, R187). -/

namespace Sys2Proof.Machine

/-- Events raised on the pool side reach the event unit in the order raised (R187, R190), those of different blocks too (log
entry 29). -/
def State.deliverEvents (s : State) (w : Work) : State := (s.setPool w.pool).setHost (s.host.raiseAll w.raised)

/-- An operation leaves slot `n` for its bank, where it arrives (R29), or, in a FAILED channel, ends at once with
CHANNEL_FAILED (R38). -/
def State.placeOp (s : State) (n : SlotNo) (o : BankOp) : State :=
  let st := s.pool.control.stride
  let h := s.host.issued st n o
  if s.pool.bankFailed o.bank then s.setHost (h.resultBack st { op := o, result := .channelFailed, data := 0 })
  else (s.setHost h).setPool (s.pool.arrive o)

/-- A bank takes an operation from the tracker: its channel is FAILED, so that the operation ends at once, or a general
place is free (R28, R38, R134). -/
def PoolSide.admits (p : PoolSide) (b : BankNo) : Bool := p.bankFailed b || (p.bank b).hasGeneral

/-- The slot earliest in intake order whose held operation satisfies `f` (R134). -/
def Tracker.waitingFor (t : Tracker) (f : BankOp → Bool) : Option (SlotNo × BankOp) :=
  t.slots.findSome? fun s =>
    match s.held with
    | some o => if f o then some (s.num, o) else none
    | none => none

/-- Held operations for the banks that `f` names are admitted while those banks take them, earliest slot first: at a freed
general place by R134, at a channel failure, where R134 gives the waiting slots no order, by the model's choice (log
entry 30). The first argument bounds their number. -/
def State.admitNext (f : BankNo → Bool) : Nat → State → State
  | 0, s => s
  | k + 1, s =>
    match s.host.tracker.waitingFor fun o => f o.bank && s.pool.admits o.bank with
    | some (n, o) => State.admitNext f k (s.placeOp n o)
    | none => s

/-- Held operations for the banks that `f` names are admitted: each slot holds at most one. -/
def State.admitHeld (s : State) (f : BankNo → Bool) : State := s.admitNext f s.host.tracker.slots.length

/-- What a step at the banks raised and ended is delivered: events, then held operations for the banks that `f` names,
then results in order, then what follows from ended slots (log entries 7, 8). -/
def State.deliver (s : State) (w : Work) (f : BankNo → Bool) : State :=
  let s1 := (s.deliverEvents w).admitHeld f
  s1.setHost (w.ends.foldl (fun h e => h.resultBack s1.pool.control.stride e) s1.host).settle

/-- The operation in progress at bank `b` ends with effect `eff`, if there is one and its kind is one that `eff`
takes. -/
def State.completeOp (s : State) (b : BankNo) (eff : PoolSide → InProgress → Option Effect) : State :=
  match (s.pool.bank b).cur with
  | none => s
  | some ip =>
    match eff s.pool ip with
    | none => s
    | some f => s.deliver ((Work.start s.pool).endOp b ip f) (· == b)

/-- The slot offers its next operation (R133, R134): its bank takes it, or it becomes the slot's held operation. -/
def State.issue (s : State) (n : SlotNo) : State :=
  match s.host.tracker.slot? n with
  | none => s
  | some x =>
    if x.state = .issuing ∧ x.held = none then
      match x.nextOp? s.pool.control.stride with
      | none => s
      | some o =>
        if s.pool.admits o.bank then
          let s' := s.placeOp n o
          s'.setHost s'.host.settle
        else s.setHost (s.host.modifySlot n fun y => { y with held := some o })
    else s

end Sys2Proof.Machine
end

