-- ==== Sys2Proof/Machine/BankCommands.lean ====
section
/-! DEFINITION. The meanings of the commands at the banks and their channel controllers: issue, the six granule
operations, the command error and the arrival of a failure signal. -/

namespace Sys2Proof.Machine

/-- ISSUE_GRANULE_OPERATION (R133, R134). -/
def execIssueGranuleOperation (slot : SlotNo) (s : State) : Host.Outcome State Fault Refusal := .next (s.issue slot)

/-- READ_OPERATION (R21, R71, R73): an attempt of the READ in progress at `bank` completes. -/
def execReadOperation (bank : BankNo) (outcome source : ReadOutcome) (s : State) :
    Host.Outcome State Fault Refusal :=
  .next (s.completeOp bank fun p ip =>
    match ip.op.kind with
    | .read => some (p.readOpEffect ip outcome source)
    | .check | .write _ | .merge _ _ | .mark | .step => none)

/-- CHECK_OPERATION (R22, R71, R73). -/
def execCheckOperation (bank : BankNo) (outcome source : ReadOutcome) (s : State) :
    Host.Outcome State Fault Refusal :=
  .next (s.completeOp bank fun p ip =>
    match ip.op.kind with
    | .check => some (p.checkOpEffect ip outcome source)
    | .read | .write _ | .merge _ _ | .mark | .step => none)

/-- WRITE_OPERATION (R23, R70), format writes included (R12). -/
def execWriteOperation (bank : BankNo) (s : State) : Host.Outcome State Fault Refusal :=
  .next (s.completeOp bank fun _ ip =>
    match ip.op.kind with
    | .write d => some (ip.storeEffect (.valid d))
    | .read | .check | .merge _ _ | .mark | .step => none)

/-- MERGE_OPERATION (R24, R72, R73). -/
def execMergeOperation (bank : BankNo) (outcome source : ReadOutcome) (s : State) :
    Host.Outcome State Fault Refusal :=
  .next (s.completeOp bank fun p ip =>
    match ip.op.kind with
    | .merge mask d => some (p.mergeOpEffect ip mask d outcome source)
    | .read | .check | .write _ | .mark | .step => none)

/-- MARK_OPERATION (R25, R70). -/
def execMarkOperation (bank : BankNo) (s : State) : Host.Outcome State Fault Refusal :=
  .next (s.completeOp bank fun _ ip =>
    match ip.op.kind with
    | .mark => some (ip.storeEffect .tainted)
    | .read | .check | .write _ | .merge _ _ | .step => none)

/-- STEP_OPERATION (R65 to R68): an attempt of the STEP in progress at `bank` completes, its source read and its verify
read meeting the two outcomes. -/
def execStepOperation (bank : BankNo) (source verify : ReadOutcome) (s : State) :
    Host.Outcome State Fault Refusal :=
  match (s.pool.bank bank).cur with
  | none => .next s
  | some ip =>
    match ip.op.kind with
    | .step => .next (s.deliver ((Work.start s.pool).endStep bank ip source verify) (· == bank))
    | .read | .check | .write _ | .merge _ _ | .mark => .next s

/-- COMMAND_ERROR (R35 to R37): the attempt in progress at `bank` is undone and retried, or its operation ends.
Operations held for the banks of a channel that fails by it are issued at the same event (R134). -/
def execCommandError (bank : BankNo) (s : State) : Host.Outcome State Fault Refusal :=
  match (s.pool.bank bank).cur with
  | none => .next s
  | some ip =>
    if s.pool.retries bank then .next (s.setPool (s.pool.retryOp bank))
    else .next (s.deliver ((Work.start s.pool).lastError bank ip) fun b => bankChannel b == bankChannel bank)

/-- What a block does when the failure signal of channel `c` reaches it (R8, R79, R92, R134). -/
def State.signal (s : State) (target : SignalTarget) (c : ChanNo) : State :=
  match target with
  | .poolControl => s.deliverEvents ((Work.start s.pool).poolSignal c)
  | .migrationController => s.setPool (s.pool.removeCandidates c)
  | .healthMonitor => s.setPool (s.pool.removeChannelEntries c)
  | .tracker =>
    let s' := s.admitHeld fun b => bankChannel b == c
    s'.setHost s'.host.settle

/-- CHANNEL_FAILURE_SIGNAL (R39): a signal on its way reaches its block; no signal arrives that was not sent. -/
def execChannelFailureSignal (target : SignalTarget) (channel : ChanNo) (s : State) :
    Host.Outcome State Fault Refusal :=
  if (target, channel) ∈ s.pool.signals then
    .next ((s.setPool (s.pool.setSignals (s.pool.signals.erase (target, channel)))).signal target channel)
  else .next s

end Sys2Proof.Machine
end

