-- ==== Sys2Proof/Machine/HostReadCommands.lean ====
section
/-! DEFINITION. The meanings of the commands that end host reads (R198) and of FETCH_START, with the arrival of a MAP
LOAD image at the configuration unit (R52 to R54). -/

namespace Sys2Proof.Machine

/-! ## The MAP LOAD image (R52 to R54) -/

/-- The spare tables with one valid entry of an image applied (R54). -/
def applyEntry (t : Vector (Vector Spare 32) 256) (e : MapEntry) : Vector (Vector Spare 32) 256 :=
  let b : BankNo := Fin.ofNat 256 e.bank
  let i : SpareNo := Fin.ofNat 32 e.spare
  t.set b (t[b].set i (if e.state = 1 then .active (Fin.ofNat 65536 e.row) else .retired))

/-- The spare tables that a valid image gives: every spare FREE, then each entry in order (R54). -/
def loadedSpares (es : List MapEntry) : Vector (Vector Spare 32) 256 :=
  es.foldl applyEntry (Vector.replicate 256 (Vector.replicate 32 .free))

/-- The image has arrived: it is validated and applied, or refused with MAP_INVALID (R53, R54). Image and completion are one
step, so no port reset comes between them (R52, R186; log entry 17). -/
def State.loadMap (s : State) (id : BitVec 16) (es : List MapEntry) : State :=
  match firstInvalid [] es with
  | some i => s.setHost (s.host.completeCommand id .mapInvalid i)
  | none => (s.setPool (s.pool.setSpares (loadedSpares es))).setHost (s.host.completeCommand id .ok es.length)

/-- Bytes of the image arrive (R52); with no image read outstanding the image is whole. -/
def State.imageData (s : State) (off : Nat) (bytes : List Byte) : State :=
  match s.host.config with
  | .executing id (.mapLoad n addr) (some ps) =>
    let ps' := insertPiece { offset := off, bytes := bytes } ps
    if s.host.port.outstanding Owner.isImage then
      s.setHost (s.host.setConfig (.executing id (.mapLoad n addr) (some ps')))
    else s.loadMap id (mapEntries n (pieceBytes ps'))
  | .executing _ _ _ => s
  | .idle => s
  | .drainWait _ _ _ => s

/-- A host read of the image fails (R52): the command completes HOST_ACCESS and the rest of the image is not used. That its
other reads are then abandoned as R198 describes, so that a waiting one is never sent, is the model's (log entry 31). -/
def HostSide.failImage (h : HostSide) : HostSide :=
  match h.config with
  | .executing id (.mapLoad _ _) (some _) => (h.abandonReads Owner.isImage).completeCommand id .hostAccess 0
  | .executing _ _ _ => h
  | .idle => h
  | .drainWait _ _ _ => h

/-! ## Ends of host reads (R198) -/

/-- A host read succeeds: its bytes are handed to its requester. -/
def State.readDone (s : State) (o : Owner) (bytes : List Byte) : State :=
  match o with
  | .fetch first => s.setHost (s.host.fetchData s.pool.control.state first bytes)
  | .slotList n off => s.setHost (s.host.listData n off bytes)
  | .slotData n g off => s.setHost (s.host.stagedData n g off bytes)
  | .image off => s.imageData off bytes

/-- A host read fails: the failure is handed to its requester. -/
def HostSide.readFailed (h : HostSide) (o : Owner) : HostSide :=
  match o with
  | .fetch _ => h.failFetch
  | .slotList n _ => (h.failSlot n).settle
  | .slotData n _ _ => (h.failSlot n).settle
  | .image _ => h.failImage

/-- The sent host read numbered `id`. -/
def HostPort.sentRead? (p : HostPort) (id : Nat) : Option SentRead := p.sent.find? fun r => r.read.id == id

/-- A sent read fails (R198): its requester is told unless it has abandoned the read, and then its place frees, so that a
waiting read which the requester abandons at the failure is never sent (log entry 16). -/
def HostSide.failRead (h : HostSide) (r : SentRead) : HostSide :=
  (if r.abandoned then h else (h.endRead r.read.id).readFailed r.read.owner).freePlace r.read.id

/-- Bytes of an answer arrive for a sent read (R198): with the last of them the data is handed over unless the read is
abandoned, and then the place frees (log entry 16). -/
def State.answerData (s : State) (r : SentRead) (off : Nat) (bytes : List Byte) : State :=
  let got := fillBytes r.bytes off bytes
  match allBytes got with
  | some all =>
    let s1 := if r.abandoned then s else (s.setHost (s.host.endRead r.read.id)).readDone r.read.owner all
    s1.setHost (s1.host.freePlace r.read.id)
  | none => s.setHost (s.host.setPort { s.host.port with
      sent := s.host.port.sent.map fun x => if x.read.id = r.read.id then { x with bytes := got } else x })

/-! ## Commands -/

/-- HOST_READ_ANSWER (R198): a part of the answer to host read `read`; an answer to a read that holds no place is
discarded. -/
def execHostReadAnswer (read : Nat) (part : AnswerPart) (s : State) : Host.Outcome State Fault Refusal :=
  match s.host.port.sentRead? read, part with
  | none, _ => .next s
  | some r, .completionError => .next (s.setHost (s.host.failRead r))
  | some r, .data off bytes => .next (s.answerData r off bytes)

/-- HOST_READ_TIMEOUT (R198): the timer of host read `read` expires. -/
def execHostReadTimeout (read : Nat) (s : State) : Host.Outcome State Fault Refusal :=
  match s.host.port.sentRead? read with
  | none => .next s
  | some r => .next (s.setHost (s.host.failRead r))

/-- FETCH_START (R155 to R157). -/
def execFetchStart (s : State) : Host.Outcome State Fault Refusal := .next (s.setHost s.host.startFetch)

end Sys2Proof.Machine
end

