-- ==== Sys2Proof/Machine/Window.lean ====
section
/-! DEFINITION. The register window: port reset (R144, R169, R186, R202), CONTROL (R195, R201, R202), the configuration
registers, and reads and writes of the window (R195, 12.10). -/

namespace Sys2Proof.Machine

/-! ## Port reset (R202) -/

/-- The tracker after a port reset (R144): no slot, no reservation; the tags and the counts of operations still at the
banks are kept. -/
def Tracker.portReset (t : Tracker) : Tracker := { t with slots := [], reserved := 0 }

/-- A port reset (R202): every host read is abandoned, ENABLE is cleared, and the queue engine (R169), the tracker
(R144) and the configuration unit (R186) are reset. -/
def HostSide.portReset (h : HostSide) : HostSide :=
  let h1 := h.abandonReads fun _ => true
  (((h1.setPort { h1.port with enable := false }).setEngine QueueEngine.reset).setTracker
    h1.tracker.portReset).setConfig .idle

/-- The registers that a function-level reset and link down return to their power-on values (R202). -/
def HostPort.resetRegisters (p : HostPort) : HostPort :=
  { p with configError := false, windowLow := 0, windowHigh := 0, rqBase := 0, cqBase := 0, sizes := 0 }

/-- A port reset that also resets the registers (R202). -/
def HostSide.functionReset (h : HostSide) : HostSide :=
  let h1 := h.portReset
  h1.setPort h1.port.resetRegisters

/-! ## CONTROL (R201, R202) -/

/-- The check of the configuration registers at ENABLE from 0 to 1 (R201). -/
def HostPort.enableCheck (p : HostPort) : Bool :=
  decide (2 ≤ p.rq0Size ∧ p.rq0Size ≤ 4096 ∧ 2 ≤ p.cq0Size ∧ p.cq0Size ≤ 4096)
    && decide (p.rqBase.toNat % 64 = 0 ∧ p.cqBase.toNat % 64 = 0)
    && p.inWindow p.rqBase.toNat (64 * p.rq0Size) && p.inWindow p.cqBase.toNat (32 * p.cq0Size)

/-- A request ring at its creation (R168, R174). -/
def Rq.created (base size : Nat) (cq : RingId) (burst : Nat) : Rq :=
  { state := .active, base := base, size := size, tail := 0, head := 0, cq := cq, burst := burst, inFlight := false }

/-- A completion ring at its creation with `bound` request rings (R149, R168, R174). -/
def Cq.created (base size bound vector : Nat) (intEn : Bool) : Cq :=
  { state := .active, base := base, size := size, head := 0, tail := 0, lap := true, unconsumed := 0, reserved := 0,
    bound := bound, vector := vector, intEn := intEn, armed := true }

/-- The event ring at its creation (R149, R178). -/
def EvRing.created (base size vector : Nat) (intEn : Bool) : EvRing :=
  { state := .active, base := base, size := size, head := 0, tail := 0, lap := true, unconsumed := 0,
    vector := vector, intEn := intEn, armed := true }

/-- The configuration pair is created from the configuration registers (R168). -/
def HostSide.createPair (h : HostSide) : HostSide :=
  (h.setRq 0 (Rq.created h.port.rqBase.toNat h.port.rq0Size 0 1)).setCq 0
    (Cq.created h.port.cqBase.toNat h.port.cq0Size 1 h.port.cq0Vector h.port.cq0IntEn)

/-- ENABLE is written from 0 to 1 (R168, R201). -/
def HostSide.enable (h : HostSide) : HostSide :=
  if h.port.enableCheck then (h.setPort { h.port with enable := true, configError := false }).createPair
  else h.setPort { h.port with configError := true }

/-- A write of CONTROL (R195, R201, R202): taken while READY is 1, without effect where ENABLE keeps its value. -/
def HostSide.writeControl (h : HostSide) (en : Bool) : HostSide :=
  if h.port.ready = true ∧ en ≠ h.port.enable then (if en then h.enable else h.portReset) else h

/-! ## Reads and writes of the window (R195, R203) -/

/-- The low or the high half of a 64-bit register replaced. -/
def setHalf (r : BitVec 64) (high : Bool) (v : BitVec 32) : BitVec 64 :=
  if high then v ++ r.extractLsb' 0 32 else r.extractLsb' 32 32 ++ v

/-- The half of a 64-bit register at an offset. -/
def half (r : BitVec 64) (high : Bool) : BitVec 32 := if high then r.extractLsb' 32 32 else r.extractLsb' 0 32

/-- A 4-byte write at offset `off` of a configuration register, 010h to 037h (R195, 12.10). -/
def HostPort.writeConfig (p : HostPort) (off : Nat) (v : BitVec 32) : HostPort :=
  let high := decide (off % 8 = 4)
  if off < 0x018 then { p with windowLow := setHalf p.windowLow high v }
  else if off < 0x020 then { p with windowHigh := setHalf p.windowHigh high v }
  else if off < 0x028 then { p with rqBase := setHalf p.rqBase high v }
  else if off < 0x030 then { p with cqBase := setHalf p.cqBase high v }
  else { p with sizes := setHalf p.sizes high v &&& sizesMask }

/-- An aligned 4-byte write at offset `off` of the window (R195, 12.10). -/
def HostSide.writeWord (h : HostSide) (off : Nat) (v : BitVec 32) : HostSide :=
  if off = 0x008 then h.writeControl (v.getLsbD 0)
  else if 0x010 ≤ off ∧ off < 0x038 then
    if h.port.enable then h else h.setPort (h.port.writeConfig off v)
  else if 0x100 ≤ off ∧ off < 0x180 then h.writeTail (Fin.ofNat 32 ((off - 0x100) / 4)) v
  else if 0x180 ≤ off ∧ off < 0x200 then h.writeCqHead (Fin.ofNat 32 ((off - 0x180) / 4)) v
  else if off = 0x200 then h.writeEqHead v
  else h

/-- A write of `size` bytes at offset `off` of the window (R195): 4 or 8 bytes, aligned to the size; 8 bytes are two
4-byte writes, the low half first (log entry 13). -/
def HostSide.writeWindow (h : HostSide) (off size : Nat) (v : BitVec 64) : HostSide :=
  if size = 4 ∧ off % 4 = 0 ∧ off < 0x1000 then h.writeWord off (half v false)
  else if size = 8 ∧ off % 8 = 0 ∧ off < 0x1000 then (h.writeWord off (half v false)).writeWord (off + 4) (half v true)
  else h

/-- A register write reaches the window while the link is up (R202, log entry 14). -/
def HostSide.onLink (h : HostSide) (f : HostSide → HostSide) : HostSide := if h.port.linkUp then f h else h

/-- An aligned 4-byte read at offset `off` of the window (R147, R195, R196, 12.10). -/
def State.readWord (s : State) (off : Nat) : BitVec 32 :=
  let p := s.host.port
  let high := decide (off % 8 = 4)
  if off = 0x000 then identValue
  else if off = 0x004 then statusValue s
  else if off = 0x008 then BitVec.ofNat 32 (bit p.enable)
  else if off < 0x010 then 0
  else if off < 0x018 then half p.windowLow high
  else if off < 0x020 then half p.windowHigh high
  else if off < 0x028 then half p.rqBase high
  else if off < 0x030 then half p.cqBase high
  else if off < 0x038 then half p.sizes high
  else if off < 0x100 then 0
  else if off < 0x180 then BitVec.ofNat 32 (s.host.rq (Fin.ofNat 32 ((off - 0x100) / 4))).tail
  else if off < 0x200 then BitVec.ofNat 32 (s.host.cq (Fin.ofNat 32 ((off - 0x180) / 4))).head
  else if off = 0x200 then BitVec.ofNat 32 s.host.engine.eq.head
  else 0

/-- A read of `size` bytes at offset `off` of the window: the value found; it changes nothing (R195). No command reads the
window: this is what a read finds if it reaches it. While the link is down none does (R202), and the value is then the
model's choice (log entry 14). -/
def State.readWindow (s : State) (off size : Nat) : BitVec 64 :=
  if size = 4 ∧ off % 4 = 0 then (s.readWord off).setWidth 64
  else if size = 8 ∧ off % 8 = 0 then s.readWord (off + 4) ++ s.readWord off
  else 0

end Sys2Proof.Machine
end

