-- ==== Sys2Proof/Machine/ConfigCommands.lean ====
section
/-! DEFINITION. The meanings of the eleven configuration commands (R170 to R185). Each acts on the command that the
configuration unit holds; while it holds another, or has begun this one already, the row has no effect (log entries 1,
15). -/

namespace Sys2Proof.Machine

/-! ## QUEUE CREATE (R173, R174) -/

/-- The ring of a kind code and id is not ABSENT. -/
def HostSide.ringPresent (h : HostSide) (kind : Nat) (n : RingId) : Bool :=
  if kind = 1 then (h.rq n).state != .absent else (h.cq n).state != .absent

/-- The checks of R173, the first that fails. -/
def HostSide.createRefusal? (h : HostSide) (kind id size base : Nat) (byte16 byte17 : Byte) : Option Status :=
  if kind ≠ 1 ∧ kind ≠ 2 then some .badQueue
  else if id < 1 ∨ 31 < id then some .badQueue
  else if h.ringPresent kind (Fin.ofNat 32 id) then some .badQueue
  else if size < 2 ∨ 4096 < size then some .badParameter
  else if base % 64 ≠ 0 then some .badParameter
  else if h.port.inWindow base ((if kind = 1 then 64 else 32) * size) = false then some .badParameter
  else if kind = 1 then
    if byte17.toNat < 1 ∨ 8 < byte17.toNat then some .badParameter
    else if byte16.toNat < 1 ∨ 31 < byte16.toNat then some .badParameter
    else if (h.cq (Fin.ofNat 32 byte16.toNat)).state ≠ .active then some .badParameter
    else none
  else if 31 < byte16.toNat then some .badParameter
  else none

/-- The ring is created (R174). -/
def HostSide.createRing (h : HostSide) (kind : Nat) (n : RingId) (size base : Nat) (byte16 byte17 : Byte) : HostSide :=
  if kind = 1 then
    let c : RingId := Fin.ofNat 32 byte16.toNat
    let q := h.cq c
    (h.setCq c { q with bound := q.bound + 1 }).setRq n (Rq.created base size c byte17.toNat)
  else h.setCq n (Cq.created base size 0 byte16.toNat (byte17.getLsbD 0))

/-- QUEUE CREATE is carried out (R173, R174). -/
def HostSide.queueCreate (h : HostSide) (id : BitVec 16) (kind n size base : Nat) (byte16 byte17 : Byte) : HostSide :=
  match h.createRefusal? kind n size base byte16 byte17 with
  | some st => h.completeCommand id st 0
  | none => (h.createRing kind (Fin.ofNat 32 n) size base byte16 byte17).completeCommand id .ok 0

/-- QUEUE_CREATE (R173). -/
def execQueueCreate (s : State) : Host.Outcome State Fault Refusal :=
  match s.host.config with
  | .executing id (.queueCreate kind n size base byte16 byte17) none =>
    .next (s.setHost (s.host.queueCreate id kind n size base byte16 byte17))
  | _ => .next s

/-! ## QUEUE DELETE (R175 to R177) -/

/-- The checks of R175, the first that fails. -/
def HostSide.deleteRefusal? (h : HostSide) (kind id : Nat) : Option Status :=
  if kind ≠ 1 ∧ kind ≠ 2 then some .badQueue
  else if id < 1 ∨ 31 < id then some .badQueue
  else if h.ringPresent kind (Fin.ofNat 32 id) = false then some .badQueue
  else if kind = 2 ∧ 0 < (h.cq (Fin.ofNat 32 id)).bound then some .inUse
  else none

/-- The drain of a request ring begins, with or without an abort, and may end at once (R176). -/
def HostSide.beginDrain (h : HostSide) (id : BitVec 16) (n : RingId) (abort : Bool) : HostSide :=
  let count := if abort then h.tracker.abortCount n else 0
  let h1 := h.setRq n { h.rq n with state := .draining }
  let h2 := if abort then h1.abortRing n else h1
  (h2.setConfig (.drainWait id n count)).settle

/-- QUEUE DELETE is carried out (R175 to R177). -/
def HostSide.queueDelete (h : HostSide) (id : BitVec 16) (kind n : Nat) (abort : Bool) : HostSide :=
  match h.deleteRefusal? kind n with
  | some st => h.completeCommand id st 0
  | none =>
    if kind = 1 then h.beginDrain id (Fin.ofNat 32 n) abort
    else (h.setCq (Fin.ofNat 32 n) Cq.absent).completeCommand id .ok 0

/-- QUEUE_DELETE (R175). -/
def execQueueDelete (s : State) : Host.Outcome State Fault Refusal :=
  match s.host.config with
  | .executing id (.queueDelete kind n abort) none => .next (s.setHost (s.host.queueDelete id kind n abort))
  | _ => .next s

/-! ## EVENT QUEUE SET (R178) -/

/-- The parameters of an EVENT QUEUE SET with a size of 2 to 1,024, or the size 0, are accepted (R178). -/
def HostPort.eventRingValid (p : HostPort) (size base vector : Nat) : Bool :=
  decide (size = 0) || (decide (2 ≤ size ∧ size ≤ 1024 ∧ base % 64 = 0 ∧ vector ≤ 31) && p.inWindow base (32 * size))

/-- The event ring is set, and the pending events are posted to a new ring (R178, R192). -/
def HostSide.setEventRing (h : HostSide) (size base vector : Nat) (intEn : Bool) : HostSide :=
  if size = 0 then h.setEq EvRing.absent
  else (h.setEq (EvRing.created base size vector intEn)).postEvents h.events.entries.length

/-- EVENT_QUEUE_SET (R178). -/
def execEventQueueSet (s : State) : Host.Outcome State Fault Refusal :=
  match s.host.config with
  | .executing id (.eventQueueSet size base vector intEn) none =>
    if s.host.port.eventRingValid size base vector then
      .next (s.setHost ((s.host.setEventRing size base vector intEn).completeCommand id .ok 0))
    else .next (s.setHost (s.host.completeCommand id .badParameter 0))
  | _ => .next s

/-! ## SET PARAMETERS (R179) -/

/-- The three values are taken at one event (R93, R103, R179). -/
def State.takeParameters (s : State) (interval threshold : Nat) (enables : BitVec 8) : State :=
  let p := s.pool.setThreshold threshold
  (s.setPool (p.setScrub (p.scrub.setInterval interval p.control.state.serving))).setHost
    (s.host.setEvents { s.host.events with enables := enables })

/-- SET_PARAMETERS (R179). -/
def execSetParameters (s : State) : Host.Outcome State Fault Refusal :=
  match s.host.config with
  | .executing id (.setParameters interval threshold enables) none =>
    if interval ≤ 65535 ∧ 1 ≤ threshold ∧ threshold ≤ 15 then
      let s' := s.takeParameters interval threshold enables
      .next (s'.setHost (s'.host.completeCommand id .ok 0))
    else .next (s.setHost (s.host.completeCommand id .badParameter 0))
  | _ => .next s

/-! ## POOL FORMAT (R9, R10, R180) -/

/-- No tracker slot is occupied, no operation of a data request is at a bank, and no migration slot is occupied
(R9). -/
def State.quiet (s : State) : Bool :=
  s.host.tracker.slots.isEmpty && s.host.tracker.opsOut == 0 && s.pool.migration.slots.toList.all (·.isNone)

/-- The checks of R9: the stride of an accepted POOL FORMAT, or the refusal. -/
def State.formatStride (s : State) (stride : Nat) : Except Status Stride :=
  match Stride.ofBytes? stride with
  | none => .error .badParameter
  | some st => if s.pool.control.state = .formatting ∨ s.quiet = false then .error .wrongState else .ok st

/-- POOL_FORMAT (R9, R10): the format begins and the completion is handed over at one event (R172, R180), so R16's port reset
between the two does not show (log entry 17). -/
def execPoolFormat (s : State) : Host.Outcome State Fault Refusal :=
  match s.host.config with
  | .executing id (.poolFormat stride) none =>
    match s.formatStride stride with
    | .error st => .next (s.setHost (s.host.completeCommand id st 0))
    | .ok st =>
      let s' := s.deliverEvents ((Work.start s.pool).beginFormat st)
      .next (s'.setHost (s'.host.completeCommand id .ok 0))
  | _ => .next s

/-! ## MAP READ and HEALTH READ (R50, R51, R95, R181, R182) -/

/-- The snapshot of a MAP READ: an entry for each ACTIVE and each RETIRED spare, by bank and spare index (R50). -/
def PoolSide.mapSnapshot (p : PoolSide) : List (List Byte) :=
  (List.finRange 256).flatMap fun b => (List.finRange 32).filterMap fun i => spareEntry b i (p.spare b i)

/-- A snapshot is written to the host buffer up to its capacity, and the command completes with the snapshot length,
or with HOST_ACCESS at the first entry outside the window (R51, R95). -/
def HostSide.writeOut (h : HostSide) (id : BitVec 16) (snapshot : List (List Byte)) (capacity host : Nat) : HostSide :=
  match h.postRun host (snapshot.take capacity) with
  | (h', true) => h'.completeCommand id .ok snapshot.length
  | (h', false) => h'.completeCommand id .hostAccess 0

/-- MAP_READ (R50, R51). -/
def execMapRead (s : State) : Host.Outcome State Fault Refusal :=
  match s.host.config with
  | .executing id (.mapRead capacity host) none => .next (s.setHost (s.host.writeOut id s.pool.mapSnapshot capacity host))
  | _ => .next s

/-- HEALTH_READ (R95). -/
def execHealthRead (s : State) : Host.Outcome State Fault Refusal :=
  match s.host.config with
  | .executing id (.healthRead capacity host) none =>
    .next (s.setHost (s.host.writeOut id (s.pool.health.table.map healthEntryBytes) capacity host))
  | _ => .next s

/-! ## MAP LOAD (R52 to R54) -/

/-- The host reads of an image of `n` entries (R52, R198). -/
def imageReads (n host : Nat) : List (Owner × Nat × Nat) :=
  (splitReads (8 * n) host 0 (8 * n)).map fun x => (Owner.image x.2.1, x.1, x.2.2)

/-- An accepted MAP LOAD: an empty image is applied at once; else the image is asked for (R52, R53). That no read is asked
for after one that fails its window check, and that the reads asked for before it are then abandoned, is the model's (log
entry 31). -/
def State.beginLoad (s : State) (id : BitVec 16) (n host : Nat) : State :=
  if n = 0 then s.loadMap id []
  else
    match (s.host.setConfig (.executing id (.mapLoad n host) (some []))).askReads (imageReads n host) with
    | (h, true) => s.setHost h
    | (h, false) => s.setHost h.failImage

/-- MAP_LOAD (R52). -/
def execMapLoad (s : State) : Host.Outcome State Fault Refusal :=
  match s.host.config with
  | .executing id (.mapLoad n host) none =>
    if s.pool.control.state ≠ .offline then .next (s.setHost (s.host.completeCommand id .wrongState 0))
    else if 8192 < n then .next (s.setHost (s.host.completeCommand id .badParameter 0))
    else .next (s.beginLoad id n host)
  | _ => .next s

/-! ## HEALTH CLEAR (R96) and MIGRATE ROW (R183) -/

/-- HEALTH_CLEAR (R96): the removal and the completion come at one event (R172, R182), so R96's port reset between the two does
not show (log entry 17). -/
def execHealthClear (s : State) : Host.Outcome State Fault Refusal :=
  match s.host.config with
  | .executing id .healthClear none =>
    let t := clearTable s.pool.health.table
    .next ((s.setPool (s.pool.setTable t)).setHost
      (s.host.completeCommand id .ok (s.pool.health.table.length - t.length)))
  | _ => .next s

/-- The status that a MIGRATE ROW takes from the answer of the migration queue (R183). -/
def Answer.status : Answer → Status
  | .accepted => .ok
  | .channelFailed => .channelFailed
  | .alreadyPending => .alreadyPending
  | .queueFull => .queueFull

/-- The checks of R183, the first that fails. -/
def PoolSide.migrateStatus (p : PoolSide) (bank row : Nat) : Status :=
  if 255 < bank ∨ 65535 < row then .badParameter
  else if p.control.state.serving = false then .wrongState
  else (p.answer (Fin.ofNat 256 bank) (Fin.ofNat 65536 row)).status

/-- MIGRATE_ROW (R183): an accepted row joins the queue, and the health monitor is signalled (R91). The completion comes at that
event (R172), so R82's port reset between the two does not show (log entry 17). -/
def execMigrateRow (s : State) : Host.Outcome State Fault Refusal :=
  match s.host.config with
  | .executing id (.migrateRow bank row) none =>
    let st := s.pool.migrateStatus bank row
    let b : BankNo := Fin.ofNat 256 bank
    let r : RowNo := Fin.ofNat 65536 row
    let p := if st = .ok then (s.pool.offer b r).modifyEntry b r HealthEntry.queuedSignal else s.pool
    .next ((s.setPool p).setHost (s.host.completeCommand id st 0))
  | _ => .next s

/-! ## STATUS READ (R184, R185) -/

/-- A migration record of the status block (12.8). -/
def MigSlot.statusBytes (m : MigSlot) : List Byte :=
  natToBytes 2 m.bank.val ++ natToBytes 2 m.row.val ++ natToBytes 1 m.cursor ++ natToBytes 1 m.attempt
    ++ natToBytes 1 m.target.val ++ natToBytes 1 0

/-- Bit c is 1 when channel c is FAILED (12.8). -/
def PoolSide.channelBits (p : PoolSide) : Nat :=
  ((List.finRange 16).map fun c => if p.channels[c] = .failed then 2 ^ c.val else 0).sum

/-- The 64-byte status block (12.8, R184). -/
def statusBlock (s : State) : List Byte :=
  let p := s.pool
  let migs := p.migration.slots.toList.filterMap id
  natToBytes 1 p.control.state.code ++ natToBytes 1 migs.length ++ natToBytes 2 p.channelBits
    ++ natToBytes 4 p.control.stride.bytes ++ natToBytes 2 p.scrub.row.val ++ natToBytes 1 p.scrub.bank.val
    ++ natToBytes 1 0 ++ natToBytes 4 p.scrub.pass.toNat ++ natToBytes 1 p.migration.queue.length
    ++ natToBytes 1 s.host.events.entries.length ++ natToBytes 1 (bit s.host.events.overflow) ++ natToBytes 1 0
    ++ natToBytes 2 p.health.table.length ++ natToBytes 2 p.freeSpareCount
    ++ migs.flatMap MigSlot.statusBytes ++ natToBytes (8 * (4 - migs.length)) 0 ++ natToBytes 8 0

/-- STATUS_READ (R184, R185). -/
def execStatusRead (s : State) : Host.Outcome State Fault Refusal :=
  match s.host.config with
  | .executing id (.statusRead host) none =>
    match s.host.postWrite host (statusBlock s) with
    | (h, true) => .next (s.setHost (h.completeCommand id .ok 0))
    | (h, false) => .next (s.setHost (h.completeCommand id .hostAccess 0))
  | _ => .next s

end Sys2Proof.Machine
end

