-- ==== Sys2Proof/Machine/KeeperCommands.lean ====
section
/-! DEFINITION. The meanings of the commands of the blocks that keep the pool: the arrival of an outcome report, a
migration start, the scrub timer and a turn of the format. -/

namespace Sys2Proof.Machine

/-- OUTCOME_REPORT (R32, R85): the oldest report on its way from `bank` reaches the health monitor. -/
def execOutcomeReport (bank : BankNo) (s : State) : Host.Outcome State Fault Refusal :=
  match s.pool.reports.find? fun q => q.bank == bank with
  | none => .next s
  | some q =>
    .next (s.deliverEvents ((Work.start (s.pool.setReports (s.pool.reports.erase q))).takeReport q))

/-- MIGRATION_START (R62 to R64). -/
def execMigrationStart (s : State) : Host.Outcome State Fault Refusal :=
  .next (s.deliverEvents (Work.start s.pool).startMigration)

/-- SCRUB_TIMER_EXPIRY (R98). -/
def execScrubTimerExpiry (s : State) : Host.Outcome State Fault Refusal :=
  .next (s.deliverEvents (Work.start s.pool).timerExpiry)

/-- FORMAT_TURN (R12). -/
def execFormatTurn (s : State) : Host.Outcome State Fault Refusal :=
  .next (s.deliverEvents (Work.start s.pool).formatTurn)

end Sys2Proof.Machine
end

