-- ==== Sys2Proof/Machine/PortCommands.lean ====
section
/-! DEFINITION. The meanings of the host port's commands: resets, ENABLE, the link, and writes of the register
window. -/

namespace Sys2Proof.Machine

/-- POWER_ON_RESET (R200): every block takes its power-on value, READY included. What has been sent on the link stays
sent, host reads keep new numbers, and free values are not used again (log entry 25). -/
def execPowerOnReset (s : State) : Host.Outcome State Fault Refusal :=
  .next (((State.reset.setPending s.pending).setHost
    ((HostSide.reset.setPort { HostPort.reset with nextRead := s.host.port.nextRead }).setOut s.host.out)).setPool
    (PoolSide.reset.setFreeCount s.pool.freeCount))

/-- INITIALISATION_END (R200): READY becomes 1. -/
def execInitialisationEnd (s : State) : Host.Outcome State Fault Refusal :=
  .next (s.setHost (s.host.setPort { s.host.port with ready := true }))

/-- ENABLE_SET (R201): CONTROL is written with ENABLE 1. -/
def execEnableSet (s : State) : Host.Outcome State Fault Refusal :=
  .next (s.setHost (s.host.onLink fun h => h.writeControl true))

/-- ENABLE_CLEAR (R202): CONTROL is written with ENABLE 0. -/
def execEnableClear (s : State) : Host.Outcome State Fault Refusal :=
  .next (s.setHost (s.host.onLink fun h => h.writeControl false))

/-- FUNCTION_LEVEL_RESET (R202). -/
def execFunctionLevelReset (s : State) : Host.Outcome State Fault Refusal :=
  .next (s.setHost s.host.functionReset)

/-- LINK_DOWN (R202). -/
def execLinkDown (s : State) : Host.Outcome State Fault Refusal :=
  let h := s.host.functionReset
  .next (s.setHost (h.setPort { h.port with linkUp := false }))

/-- LINK_UP (R202): after a link down the function is found with the register values of a function-level reset. A link
that is up does not come up (log entry 1). -/
def execLinkUp (s : State) : Host.Outcome State Fault Refusal :=
  if s.host.port.linkUp then .next s
  else
    let h := s.host.functionReset
    .next (s.setHost (h.setPort { h.port with linkUp := true }))

/-- REGISTER_WRITE (R195): a write of `size` bytes at byte `offset` of the window. -/
def execRegisterWrite (offset size : Nat) (value : BitVec 64) (s : State) : Host.Outcome State Fault Refusal :=
  .next (s.setHost (s.host.onLink fun h => h.writeWindow offset size value))

/-- RQ_TAIL_WRITE (R150). -/
def execRqTailWrite (ring : RingId) (value : BitVec 32) (s : State) : Host.Outcome State Fault Refusal :=
  .next (s.setHost (s.host.onLink fun h => h.writeTail ring value))

/-- CQ_HEAD_WRITE (R152). -/
def execCqHeadWrite (ring : RingId) (value : BitVec 32) (s : State) : Host.Outcome State Fault Refusal :=
  .next (s.setHost (s.host.onLink fun h => h.writeCqHead ring value))

/-- EQ_HEAD_WRITE (R152, R192). -/
def execEqHeadWrite (value : BitVec 32) (s : State) : Host.Outcome State Fault Refusal :=
  .next (s.setHost (s.host.onLink fun h => h.writeEqHead value))

end Sys2Proof.Machine
end

