-- ==== Sys2Proof/Machine/Dispatch.lean ====
section
/-! DEFINITION. The dispatch of a command to its meaning. -/

namespace Sys2Proof.Machine

/-- The effect of a command on everything but the queue of waiting commands. -/
def exec (i : Instr) (s : State) : Host.Outcome State Fault Refusal :=
  match i with
  | .powerOnReset => Sys2Proof.Machine.execPowerOnReset s
  | .initialisationEnd => Sys2Proof.Machine.execInitialisationEnd s
  | .enableSet => Sys2Proof.Machine.execEnableSet s
  | .enableClear => Sys2Proof.Machine.execEnableClear s
  | .functionLevelReset => Sys2Proof.Machine.execFunctionLevelReset s
  | .linkDown => Sys2Proof.Machine.execLinkDown s
  | .registerWrite offset size value => Sys2Proof.Machine.execRegisterWrite offset size value s
  | .rqTailWrite ring value => Sys2Proof.Machine.execRqTailWrite ring value s
  | .cqHeadWrite ring value => Sys2Proof.Machine.execCqHeadWrite ring value s
  | .eqHeadWrite value => Sys2Proof.Machine.execEqHeadWrite value s
  | .hostReadAnswer read part => Sys2Proof.Machine.execHostReadAnswer read part s
  | .hostReadTimeout read => Sys2Proof.Machine.execHostReadTimeout read s
  | .fetchStart => Sys2Proof.Machine.execFetchStart s
  | .issueGranuleOperation slot => Sys2Proof.Machine.execIssueGranuleOperation slot s
  | .readOperation bank outcome source => Sys2Proof.Machine.execReadOperation bank outcome source s
  | .checkOperation bank outcome source => Sys2Proof.Machine.execCheckOperation bank outcome source s
  | .writeOperation bank => Sys2Proof.Machine.execWriteOperation bank s
  | .mergeOperation bank outcome source => Sys2Proof.Machine.execMergeOperation bank outcome source s
  | .markOperation bank => Sys2Proof.Machine.execMarkOperation bank s
  | .stepOperation bank source verify => Sys2Proof.Machine.execStepOperation bank source verify s
  | .commandError bank => Sys2Proof.Machine.execCommandError bank s
  | .channelFailureSignal target channel => Sys2Proof.Machine.execChannelFailureSignal target channel s
  | .outcomeReport bank => Sys2Proof.Machine.execOutcomeReport bank s
  | .migrationStart => Sys2Proof.Machine.execMigrationStart s
  | .scrubTimerExpiry => Sys2Proof.Machine.execScrubTimerExpiry s
  | .formatTurn => Sys2Proof.Machine.execFormatTurn s
  | .queueCreate => Sys2Proof.Machine.execQueueCreate s
  | .queueDelete => Sys2Proof.Machine.execQueueDelete s
  | .eventQueueSet => Sys2Proof.Machine.execEventQueueSet s
  | .setParameters => Sys2Proof.Machine.execSetParameters s
  | .poolFormat => Sys2Proof.Machine.execPoolFormat s
  | .mapRead => Sys2Proof.Machine.execMapRead s
  | .mapLoad => Sys2Proof.Machine.execMapLoad s
  | .healthRead => Sys2Proof.Machine.execHealthRead s
  | .healthClear => Sys2Proof.Machine.execHealthClear s
  | .migrateRow => Sys2Proof.Machine.execMigrateRow s
  | .statusRead => Sys2Proof.Machine.execStatusRead s
  | .linkUp => Sys2Proof.Machine.execLinkUp s

end Sys2Proof.Machine
end

