-- ==== Sys2Proof/Safety.lean ====
section
/-! DEFINITION. What counts as a safe state: the bounds that the rules put on each collection of the block. Every clause
is about data that a step from any safe state keeps, reachable from power-on or not. -/

namespace Sys2Proof.Machine

/-- The pending event set (R189): at most 64 entries, no two with one key, every repeat count 1 to 255. -/
abbrev EventUnit.safe (u : EventUnit) : Prop :=
  u.entries.length ≤ Config.eventCapacity ∧ (u.entries.map fun e => e.event.key).Nodup
    ∧ ∀ e ∈ u.entries, 1 ≤ e.count ∧ e.count ≤ 255

/-- The health table and threshold (R83, R84): at most 512 entries, no two for one row, every count 1 to 15, every
WATCH count below T, and T from 1 to 15. -/
abbrev Health.safe (h : Health) : Prop :=
  h.table.length ≤ Config.healthCapacity ∧ (h.table.map fun e => (e.bank, e.row)).Nodup
    ∧ (∀ e ∈ h.table, 1 ≤ e.count ∧ e.count ≤ 15 ∧ (e.state = .watch → e.count < h.threshold))
    ∧ 1 ≤ h.threshold ∧ h.threshold ≤ 15

/-- The migration queue and slots (R57, R58, R60): at most 16 candidates, none twice, none that a slot names; no two
slots of one bank; every cursor below 32 and every attempt 1 to 3. -/
abbrev Migration.safe (m : Migration) : Prop :=
  m.queue.length ≤ Config.queueCapacity ∧ m.queue.Nodup
    ∧ (∀ i : Fin 4, ∀ s ∈ m.slots[i], (s.bank, s.row) ∉ m.queue ∧ s.cursor < 32 ∧ 1 ≤ s.attempt
        ∧ s.attempt ≤ Config.maxAttempts)
    ∧ ∀ i j : Fin 4, ∀ s ∈ m.slots[i], ∀ t ∈ m.slots[j], s.bank = t.bank → i = j

/-- The bank operation queues and retry counts (R28, R34): at most 30 operations in general places, at most 8
retries. -/
abbrev PoolSide.queuesSafe (p : PoolSide) : Prop :=
  ∀ b : BankNo, (p.bank b).generalCount ≤ Config.generalPlaces ∧ (p.bank b).retry ≤ Config.maxRetries

/-- The read places (R198): at most 128 reads are sent and unfinished, and a read waits only while all are taken. -/
abbrev HostPort.placesSafe (p : HostPort) : Prop :=
  p.sent.length ≤ Config.readPlaces ∧ (p.waiting ≠ [] → p.sent.length = Config.readPlaces)

/-- The tracker's slots (R126): no slot is occupied twice, so at most 256 are occupied. -/
abbrev Tracker.safe (t : Tracker) : Prop := (t.slots.map Slot.num).Nodup

/-- Nothing of the tracker's is ready to complete and no deletion waits: no slot is COMPLETING, an AWAITING slot has
operations still at the banks, and the configuration unit is not in DRAIN_WAIT. -/
abbrev HostSide.quiescent (h : HostSide) : Prop :=
  (∀ x ∈ h.tracker.slots, x.state ≠ .completing ∧ (x.state = .awaiting → x.ended ≠ x.issued))
    ∧ ∀ id ring k, h.config ≠ .drainWait id ring k

/-- Pool side `q` differs from `p` at most in bank unit `b`, the granules, the reports on their way and the count of
free values: what the end of an operation at bank `b` that meets no target failure leaves. -/
abbrev PoolSide.keptBut (p q : PoolSide) (b : BankNo) : Prop :=
  q.control = p.control ∧ q.channels = p.channels ∧ q.signals = p.signals ∧ q.spares = p.spares
    ∧ q.migration = p.migration ∧ q.health = p.health ∧ q.scrub = p.scrub ∧ ∀ i, i ≠ b → q.bank i = p.bank i

/-- No slot holds an operation for bank `b`: the end of an operation there admits nothing (R134). -/
abbrev Tracker.noneHeldFor (t : Tracker) (b : BankNo) : Prop := ∀ x ∈ t.slots, ∀ o, x.held = some o → o.bank ≠ b

/-! ## Credit (R154) -/

/-- The request rings bound to completion ring `n`: those that are not ABSENT and name it (R147). -/
def HostSide.boundRings (h : HostSide) (n : RingId) : Nat :=
  (List.finRange 32).countP fun m => (h.rq m).state != .absent && (h.rq m).cq == n

/-- The entries promised on completion ring `n` (R154): one for each record of the fetch in flight that has not been
handed over, one for each occupied slot, and one for the command that the configuration unit holds. -/
def HostSide.promised (h : HostSide) (n : RingId) : Nat :=
  (match h.engine.fetch with
    | some f => if (h.rq f.ring).cq = n then f.recs.length else 0
    | none => 0)
  + h.tracker.slots.countP (fun x => (h.rq x.ring).cq == n)
  + (if h.config ≠ .idle ∧ (h.rq 0).cq = n then 1 else 0)

/-- The fetch in flight, if there is one, holds records of a ring that is not ABSENT, of RQ0 at most one and only while
the configuration unit is IDLE; for a data ring a slot is reserved for each, and the slots reserved are available (R128,
R155, R157). -/
abbrev HostSide.fetchSafe (h : HostSide) : Prop :=
  (∀ f, h.engine.fetch = some f → (h.rq f.ring).state ≠ .absent ∧ f.recs ≠ []
      ∧ (f.ring = 0 → h.config = .idle ∧ f.recs.length = 1))
    ∧ h.tracker.reserved = (match h.engine.fetch with | some f => if f.ring = 0 then 0 else f.recs.length | none => 0)
    ∧ h.tracker.reserved ≤ h.tracker.availableSlots.length

/-- The rule of credit (R154) with what it rests on. On every completion ring that is not ABSENT the bound count is that
of its request rings and the reserved count is that of the promised entries; on an ACTIVE one unconsumed and reserved
never exceed the size. Every request ring that is not ABSENT names a completion ring that is not, and has a burst; slots,
fetch and commands are of rings that are not ABSENT; with ENABLE 0 there is none of these. -/
abbrev HostSide.creditSafe (h : HostSide) : Prop :=
  (∀ n, (h.cq n).state ≠ .absent → (h.cq n).bound = h.boundRings n ∧ (h.cq n).reserved = h.promised n)
    ∧ (∀ n, (h.cq n).state = .active → (h.cq n).unconsumed + (h.cq n).reserved ≤ (h.cq n).size)
    ∧ (∀ m, (h.rq m).state ≠ .absent → (h.cq (h.rq m).cq).state ≠ .absent ∧ 1 ≤ (h.rq m).burst)
    ∧ (∀ x ∈ h.tracker.slots, (h.rq x.ring).state ≠ .absent) ∧ h.tracker.safe ∧ h.fetchSafe
    ∧ (h.config ≠ .idle → (h.rq 0).state ≠ .absent)
    ∧ (∀ id ring k, h.config = .drainWait id ring k → ring ≠ 0 ∧ (h.rq ring).state ≠ .absent)
    ∧ (h.port.enable = false → (∀ n, (h.rq n).state = .absent ∧ (h.cq n).state = .absent) ∧ h.engine.fetch = none
        ∧ h.tracker.slots = [] ∧ h.config = .idle)

/-! ## The row map and its migrations (R42, R43, R61) -/

/-- The operations a bank unit holds: the one in progress, then the waiting ones. -/
def Bank.ops (x : Bank) : List BankOp := (x.cur.map (·.op)).toList ++ x.waiting

/-- The row map's own rules. The TARGET spares of a bank are those of its migration in progress, of which it has at most
one (R42); no row is ACTIVE in two spares (R43); a migration's source is the row's place. -/
abbrev PoolSide.mapSafe (p : PoolSide) : Prop :=
  (∀ b i r, p.spare b i = .target r ↔
      ∃ (k : Fin 4) (m : MigSlot), p.migration.slots[k] = some m ∧ m.bank = b ∧ m.target = i ∧ m.row = r)
    ∧ (∀ (j k : Fin 4) (m n : MigSlot), p.migration.slots[j] = some m → p.migration.slots[k] = some n →
        m.bank = n.bank → j = k)
    ∧ (∀ b i j r, p.spare b i = .active r → p.spare b j = .active r → i = j)
    ∧ ∀ (k : Fin 4) (m : MigSlot), p.migration.slots[k] = some m → m.source = p.lookup m.bank m.row

/-- In an ACTIVE channel the migration record of a bank and the slot of its migration hold the same values, and the one
is there exactly when the other is (R61). -/
abbrev PoolSide.recordsSafe (p : PoolSide) : Prop :=
  ∀ b, p.channels[bankChannel b] = .active → ∀ rec, (p.bank b).record = some rec ↔
    ∃ (k : Fin 4) (m : MigSlot), p.migration.slots[k] = some m ∧ m.bank = b ∧ m.record = rec

/-- What the rules of the row map rest on: a bank unit holds operations of its own bank, of which the migration
controller's are STEPs; a slot holds none of the migration controller's; no migration is in progress while the pool is
OFFLINE, and only then is an image of a MAP LOAD read (R52, R62). -/
abbrev State.mapSafe (s : State) : Prop :=
  s.pool.mapSafe ∧ s.pool.recordsSafe
    ∧ (∀ b, ∀ o ∈ (s.pool.bank b).ops, o.bank = b ∧ (o.issuer = .migration → o.kind = .step))
    ∧ (∀ x ∈ s.host.tracker.slots, ∀ o, x.held = some o → o.issuer ≠ .migration)
    ∧ (s.pool.control.state = .offline → ∀ k : Fin 4, s.pool.migration.slots[k] = none)
    ∧ ∀ id n a ps, s.host.config = .executing id (.mapLoad n a) (some ps) → s.pool.control.state = .offline

/-- A safe state. -/
structure State.Safe (s : State) : Prop where
  events : s.host.events.safe
  places : s.host.port.placesSafe
  slots : s.host.tracker.safe
  credit : s.host.creditSafe
  health : s.pool.health.safe
  migration : s.pool.migration.safe
  queues : s.pool.queuesSafe
  memory : s.pool.mem.wf
  map : s.mapSafe

end Sys2Proof.Machine
end

