-- ==== Sys2Proof/Certificates/Slice0/Obligations.lean ====
section
/-! DEFINITION. The statements about the HT3216 that the provers are asked for. -/

open Sys2Proof Sys2Proof.Machine

/-! ## The queue of commands -/

/-- A step takes the command at the front of the queue and runs it on the state with the queue's rest; on an empty queue
it changes nothing. Both are the model's choice (log entries 2, 3). -/
def Obligations.StepRunsFrontCommand : Prop :=
  (∀ (c : Instr) (rest : List Instr) (s : State), s.pending = c :: rest → step s = exec c (s.setPending rest))
    ∧ ∀ s : State, s.pending = [] → step s = .next s

/-- Every command answers a next state in every state, and leaves the queue of waiting commands as it was: no event of
the manual ends the machine. That a command whose event cannot occur changes nothing, and that POWER_ON_RESET keeps the
queue, are the model's choices (log entries 1, 3, 25). -/
def Obligations.EveryCommandAnswersNext : Prop :=
  ∀ (c : Instr) (s : State), ∃ t, exec c s = .next t ∧ t.pending = s.pending

/-! ## The pool address map (chapter 1) -/

/-- The ten steps of the decomposition of a pool address (R3), by the table's own formulas; the next chunk lies in the
next channel; and every operation that a slot offers names the bank, row and granule of the decomposition of the first
address of its granule: of the next granule of the range, or for a COPY of the first ready granule of the destination
range or of the next one of the source range. -/
def Obligations.AddressDecomposition : Prop :=
  (∀ (st : Stride) (a : Nat), a < 2 ^ 35 →
    let k := a / st.bytes
    let offset := k / 256 * st.bytes + a % st.bytes
    (st.bankOf a).val = k % 16 * 16 + k / 16 % 16 ∧ (bankChannel (st.bankOf a)).val = k % 16
      ∧ (st.rowOf a).val = offset / 2048 ∧ (st.granOf a).val = offset % 2048 / 64 ∧ st.byteOf a = offset % 2048 % 64
      ∧ (bankChannel (st.bankOf (a + st.bytes))).val = (k + 1) % 16)
  ∧ ∀ (x : Slot) (st : Stride) (o : BankOp), x.nextOp? st = some o →
      let isAt := fun a => o.bank = st.bankOf a ∧ o.row = st.rowOf a ∧ o.gran = st.granOf a
      (x.req.kind ≠ .copy → ∃ k, x.next = some k ∧ isAt (touchedBase x.req.a k))
      ∧ (x.req.kind = .copy →
          (∀ j kind rest, x.copy.ready = (j, kind) :: rest → isAt (touchedBase x.req.b j))
          ∧ (x.copy.ready = [] → isAt (touchedBase x.req.a x.copy.source)))

/-- The decomposition is one-to-one onto the bytes of the logical rows of all banks, the reverse mapping is its inverse
in both directions and has the table's formula, the bytes of a chunk lie in one logical row, and the 64 bytes of a
granule are 64 consecutive pool addresses (R4). -/
def Obligations.AddressMapOneToOne : Prop :=
  ∀ st : Stride,
    (∀ a, a < 2 ^ 35 → st.address (st.bankOf a) (st.rowOf a) (st.granOf a) (st.byteOf a) = a)
    ∧ (∀ (b : BankNo) (r : RowNo) (g : GranNo) (n : Nat), n < 64 →
        st.address b r g n < 2 ^ 35 ∧ st.bankOf (st.address b r g n) = b ∧ st.rowOf (st.address b r g n) = r
          ∧ st.granOf (st.address b r g n) = g ∧ st.byteOf (st.address b r g n) = n)
    ∧ (∀ (b : BankNo) (r : RowNo) (g : GranNo) (n : Nat), n < 64 → st.address b r g n = st.address b r g 0 + n)
    ∧ (∀ (b : BankNo) (r : RowNo) (g : GranNo) (n : Nat),
        let offset := r.val * 2048 + g.val * 64 + n
        st.address b r g n =
          (offset / st.bytes * 256 + b.val % 16 * 16 + b.val / 16) * st.bytes + offset % st.bytes)
    ∧ ∀ a d : Nat, a % st.bytes + d < st.bytes → st.bankOf (a + d) = st.bankOf a ∧ st.rowOf (a + d) = st.rowOf a

/-! ## Resets and the register window (chapter 11) -/

/-- After power-on reset, and then after the end of the initialisation, which sets READY and changes nothing else, every
block holds its power-on value. -/
def Obligations.PowerOnValues : Prop :=
  (∀ s : State, exec .initialisationEnd s = .next (s.setHost (s.host.setPort { s.host.port with ready := true })))
    ∧ State.reset.host.port.ready = false
    ∧ ∃ t, exec .initialisationEnd State.reset = .next t
      ∧ t.host.port.ready = true ∧ t.host.port.enable = false ∧ t.host.port.configError = false
      ∧ t.host.port.windowLow = 0 ∧ t.host.port.windowHigh = 0 ∧ t.host.port.rqBase = 0 ∧ t.host.port.cqBase = 0
      ∧ t.host.port.sizes = 0 ∧ t.host.port.sent = [] ∧ t.host.port.waiting = []
      ∧ (∀ n, (t.host.rq n).state = .absent ∧ (t.host.cq n).state = .absent) ∧ t.host.engine.eq.state = .absent
      ∧ t.host.engine.fetch = none ∧ t.host.engine.position = 0
      ∧ t.host.tracker.slots = [] ∧ t.host.tracker.opsOut = 0 ∧ t.host.tracker.reserved = 0 ∧ t.host.config = .idle
      ∧ (∀ n : SlotNo, t.host.tracker.tags[n] = 0 ∧ t.host.tracker.outstanding[n] = 0)
      ∧ t.host.events.entries = [] ∧ t.host.events.overflow = false ∧ t.host.events.enables = 0xBF
      ∧ t.pool.control.state = .offline ∧ t.pool.control.stride = .s256 ∧ t.pool.control.cursor = none
      ∧ (∀ b, (t.pool.bank b).state = .idle ∧ (t.pool.bank b).cur = none ∧ (t.pool.bank b).waiting = []
          ∧ (t.pool.bank b).openRow = none ∧ (t.pool.bank b).record = none ∧ (t.pool.bank b).retry = 0)
      ∧ (∀ c : ChanNo, t.pool.channels[c] = .active) ∧ (∀ b i, t.pool.spare b i = .free)
      ∧ t.pool.migration.queue = [] ∧ (∀ i : Fin 4, t.pool.migration.slots[i] = none)
      ∧ t.pool.health.table = [] ∧ t.pool.health.threshold = 4
      ∧ t.pool.scrub.interval = 0 ∧ t.pool.scrub.running = false ∧ t.pool.scrub.row = 0 ∧ t.pool.scrub.bank = 0
      ∧ t.pool.scrub.pass = 0 ∧ t.pool.scrub.cur = none ∧ t.pool.scrub.owed = false
      ∧ t.pool.reports = [] ∧ t.pool.signals = [] ∧ ∀ k, t.pool.mem.read k = none

/-- POWER_ON_RESET gives every block its power-on value from every state (R200); what was sent on the link, the numbers
of host reads, the count of free values and the waiting commands are the model's own and are kept (log entry 25). That
the link is then up, and the fields of an ABSENT ring that no rule gives, are the model's choice (log entries 14, 18). -/
def Obligations.PowerOnResetFromAnyState : Prop :=
  ∀ s : State, ∃ t, exec .powerOnReset s = .next t
    ∧ t.host.port = { State.reset.host.port with nextRead := s.host.port.nextRead }
    ∧ t.host.engine = State.reset.host.engine ∧ t.host.tracker = State.reset.host.tracker
    ∧ t.host.config = State.reset.host.config ∧ t.host.events = State.reset.host.events
    ∧ t.pool = { State.reset.pool with freeCount := s.pool.freeCount }
    ∧ t.host.out = s.host.out ∧ t.pending = s.pending

/-- ENABLE written from 0 to 1 (R168, R201): with the four checks passed, ENABLE becomes 1, CONFIG_ERROR is cleared and
RQ0 and CQ0 are created from the configuration registers, no other ring or block changing; with a check failed,
CONFIG_ERROR is set and nothing else changes. -/
def Obligations.EnableCreatesConfigurationPair : Prop :=
  ∀ s : State, s.host.port.linkUp = true → s.host.port.ready = true → s.host.port.enable = false →
    let p := s.host.port
    let n := p.sizes.toNat % 8192
    let m := p.sizes.toNat / 65536 % 8192
    let pass := (2 ≤ n ∧ n ≤ 4096 ∧ 2 ≤ m ∧ m ≤ 4096) ∧ (p.rqBase.toNat % 64 = 0 ∧ p.cqBase.toNat % 64 = 0)
      ∧ (p.windowLow.toNat ≤ p.rqBase.toNat ∧ p.rqBase.toNat + 64 * n - 1 ≤ p.windowHigh.toNat)
      ∧ (p.windowLow.toNat ≤ p.cqBase.toNat ∧ p.cqBase.toNat + 32 * m - 1 ≤ p.windowHigh.toNat)
    (pass → ∃ t, exec .enableSet s = .next t
      ∧ t.host.port = { p with enable := true, configError := false }
      ∧ t.host.rq 0 = { state := .active, base := p.rqBase.toNat, size := n, tail := 0, head := 0, cq := 0, burst := 1,
                        inFlight := false }
      ∧ t.host.cq 0 = { state := .active, base := p.cqBase.toNat, size := m, head := 0, tail := 0, lap := true,
                        unconsumed := 0, reserved := 0, bound := 1, vector := p.sizes.toNat / 2 ^ 32 % 32,
                        intEn := p.sizes.getLsbD 40, armed := true }
      ∧ (∀ i, i ≠ 0 → t.host.rq i = s.host.rq i ∧ t.host.cq i = s.host.cq i)
      ∧ t.host.engine.eq = s.host.engine.eq ∧ t.host.engine.fetch = s.host.engine.fetch
      ∧ t.host.engine.position = s.host.engine.position ∧ t.host.tracker = s.host.tracker
      ∧ t.host.config = s.host.config ∧ t.host.events = s.host.events ∧ t.host.out = s.host.out ∧ t.pool = s.pool)
    ∧ (¬pass → exec .enableSet s = .next (s.setHost (s.host.setPort { p with configError := true })))

/-- What a port reset leaves (R144, R169, R186, R202), whatever its cause: every host read abandoned, ENABLE 0, every
ring ABSENT with its descriptor cleared, no fetch, round-robin position 0, no slot and no reservation, the
configuration unit IDLE; the slot tags, the counts of operations at the banks, the pending events, the pool side and
the link's past are kept. ENABLE_CLEAR keeps the registers, the other causes return them to their power-on values. The
values of a cleared descriptor that no rule gives, and that LINK_UP on a link that is down is such a cause, are the
model's (log entries 14, 18). -/
def Obligations.PortResetEffects : Prop :=
  ∀ s t : State,
    let clear := exec .enableClear s = .next t ∧ s.host.port.linkUp = true ∧ s.host.port.ready = true
      ∧ s.host.port.enable = true
    let others := exec .functionLevelReset s = .next t ∨ exec .linkDown s = .next t
      ∨ exec .linkUp s = .next t ∧ s.host.port.linkUp = false
    clear ∨ others →
    t.host.port.enable = false ∧ t.host.port.ready = s.host.port.ready ∧ t.host.port.waiting = []
    ∧ t.host.port.sent = s.host.port.sent.map (fun r => { r with abandoned := true })
    ∧ (∀ n, t.host.rq n = Rq.absent ∧ t.host.cq n = Cq.absent) ∧ t.host.engine.eq = EvRing.absent
    ∧ t.host.engine.fetch = none ∧ t.host.engine.position = 0
    ∧ t.host.tracker.slots = [] ∧ t.host.tracker.reserved = 0 ∧ t.host.tracker.tags = s.host.tracker.tags
    ∧ t.host.tracker.outstanding = s.host.tracker.outstanding ∧ t.host.tracker.opsOut = s.host.tracker.opsOut
    ∧ t.host.config = .idle ∧ t.host.events = s.host.events ∧ t.host.out = s.host.out ∧ t.pool = s.pool
    ∧ (clear → t.host.port.windowLow = s.host.port.windowLow ∧ t.host.port.windowHigh = s.host.port.windowHigh
        ∧ t.host.port.rqBase = s.host.port.rqBase ∧ t.host.port.cqBase = s.host.port.cqBase
        ∧ t.host.port.sizes = s.host.port.sizes ∧ t.host.port.configError = s.host.port.configError)
    ∧ (others → t.host.port.windowLow = 0 ∧ t.host.port.windowHigh = 0 ∧ t.host.port.rqBase = 0
        ∧ t.host.port.cqBase = 0 ∧ t.host.port.sizes = 0 ∧ t.host.port.configError = false)

/-- The registers after each cause of a port reset, and the completion of the four commands that make one (R202). That a
LINK_UP on a link that is up changes nothing is the model's choice (log entries 1, 14). -/
def Obligations.PortResetRegisters : Prop :=
  ∀ s : State,
    (s.host.port.linkUp = true → s.host.port.ready = true → s.host.port.enable = true →
      ∃ t, exec .enableClear s = .next t ∧ t.host.port.windowLow = s.host.port.windowLow
        ∧ t.host.port.windowHigh = s.host.port.windowHigh ∧ t.host.port.rqBase = s.host.port.rqBase
        ∧ t.host.port.cqBase = s.host.port.cqBase ∧ t.host.port.sizes = s.host.port.sizes
        ∧ t.host.port.configError = s.host.port.configError ∧ t.host.port.linkUp = true)
    ∧ (∀ c : Instr, c = .functionLevelReset ∨ c = .linkDown ∨ (c = .linkUp ∧ s.host.port.linkUp = false) →
      ∃ t, exec c s = .next t ∧ t.host.port.windowLow = 0 ∧ t.host.port.windowHigh = 0 ∧ t.host.port.rqBase = 0
        ∧ t.host.port.cqBase = 0 ∧ t.host.port.sizes = 0 ∧ t.host.port.configError = false
        ∧ (c = .functionLevelReset → t.host.port.linkUp = s.host.port.linkUp)
        ∧ (c = .linkDown → t.host.port.linkUp = false) ∧ (c = .linkUp → t.host.port.linkUp = true))
    ∧ (s.host.port.linkUp = true → exec .linkUp s = .next s)

/-- While ENABLE is 0 an aligned write of a 64-bit configuration register is taken, whole or by halves, and reads back;
of CONFIG SIZES the named bits are held. After each of these writes every other register reads as before, CONTROL, STATUS
and the positions included, and no host read and no other block changes (R195, R203). -/
def Obligations.ConfigurationRegisterWrites : Prop :=
  ∀ (s : State) (v : BitVec 64) (off : Nat), off ∈ [0x10, 0x18, 0x20, 0x28, 0x30] →
    s.host.port.linkUp = true → s.host.port.enable = false →
    let held := if off = 0x30 then v &&& 0x0000011F1FFF1FFF else v
    let kept := fun t : State => (∀ o, o % 8 = 0 → o ≠ off → t.readWindow o 8 = s.readWindow o 8)
      ∧ t.host.port.linkUp = s.host.port.linkUp ∧ t.host.port.sent = s.host.port.sent
      ∧ t.host.port.waiting = s.host.port.waiting ∧ t.host.port.nextRead = s.host.port.nextRead
      ∧ t.pool = s.pool ∧ t.host.engine = s.host.engine ∧ t.host.tracker = s.host.tracker
      ∧ t.host.config = s.host.config ∧ t.host.events = s.host.events ∧ t.host.out = s.host.out
    (∃ t, exec (.registerWrite off 8 v) s = .next t ∧ t.readWindow off 8 = held ∧ kept t)
    ∧ ∃ t u, exec (.registerWrite off 4 (v &&& 0xFFFFFFFF)) s = .next t ∧ kept t
      ∧ exec (.registerWrite (off + 4) 4 (v >>> 32)) t = .next u ∧ u.readWindow off 8 = held ∧ kept u

/-- Writes that the window ignores (R195): a size other than 4 or 8, a misaligned one, IDENT, STATUS, an offset without
a register, a configuration register while ENABLE is 1, and CONTROL before READY. Reads of a bad size or alignment and
of offsets without a register return 0. A 4-byte write of CONTROL or of a position register does what the
command of that register does (log entry 22), and an aligned 8-byte write is two 4-byte writes, the low half first (log
entry 13). That a read finds these values while the link is down too is the model's choice (log entry 14). -/
def Obligations.WindowAccesses : Prop :=
  ∀ (s : State) (v : BitVec 64) (off size : Nat),
    ((size ≠ 4 ∧ size ≠ 8) ∨ off % size ≠ 0 ∨ off = 0x000 ∨ (off = 0x004 ∧ size = 4) ∨ (off = 0x00C ∧ size = 4)
        ∨ (0x038 ≤ off ∧ off + size ≤ 0x100) ∨ 0x204 ≤ off
        ∨ (0x010 ≤ off ∧ off + size ≤ 0x038 ∧ s.host.port.enable = true)
        ∨ (off = 0x008 ∧ s.host.port.ready = false) →
      exec (.registerWrite off size v) s = .next s)
    ∧ exec (.registerWrite 0x008 4 v) s = (if v.getLsbD 0 = true then exec .enableSet s else exec .enableClear s)
    ∧ (∀ n : RingId, exec (.registerWrite (0x100 + 4 * n.val) 4 v) s = exec (.rqTailWrite n (v.setWidth 32)) s
        ∧ exec (.registerWrite (0x180 + 4 * n.val) 4 v) s = exec (.cqHeadWrite n (v.setWidth 32)) s)
    ∧ exec (.registerWrite 0x200 4 v) s = exec (.eqHeadWrite (v.setWidth 32)) s
    ∧ (off % 8 = 0 → off + 8 ≤ 0x1000 → ∃ t, exec (.registerWrite off 4 v) s = .next t
        ∧ exec (.registerWrite off 8 v) s = exec (.registerWrite (off + 4) 4 (v >>> 32)) t)
    ∧ ((size ≠ 4 ∧ size ≠ 8) ∨ off % size ≠ 0 ∨ (off = 0x00C ∧ size = 4) ∨ (0x038 ≤ off ∧ off + size ≤ 0x100)
        ∨ 0x204 ≤ off → s.readWindow off size = 0)
    ∧ (s.readWindow 0x000 4).extractLsb' 0 16 = (0x3216 : BitVec 16)
    ∧ (s.readWindow 0x000 4).extractLsb' 24 8 = (0x6D : BitVec 8)
    ∧ (s.readWindow 0x004 4).getLsbD 0 = s.host.port.ready ∧ (s.readWindow 0x004 4).getLsbD 1 = s.host.port.enable
    ∧ (s.readWindow 0x004 4).getLsbD 2 = s.host.port.configError
    ∧ ((s.readWindow 0x004 4).getLsbD 3 = true ↔ ∃ c : ChanNo, s.pool.channels[c] = .failed)
    ∧ ((s.readWindow 0x004 4).extractLsb' 4 2).toNat = s.pool.control.state.code
    ∧ (s.readWindow 0x004 4).extractLsb' 6 58 = 0

/-! ## Positions and credit (chapter 8) -/

/-- A write of RQ TAIL[n] (R150): ignored by a ring that is not ACTIVE; a value of the size or above faults the ring and
raises QUEUE_FAULT; a value below it becomes the tail. -/
def Obligations.TailWrite : Prop :=
  ∀ (s : State) (n : RingId) (v : BitVec 32), s.host.port.linkUp = true →
    ((s.host.rq n).state ≠ .active → exec (.rqTailWrite n v) s = .next s)
    ∧ ((s.host.rq n).state = .active → (s.host.rq n).size ≤ v.toNat →
        exec (.rqTailWrite n v) s = .next (s.setHost
          ((s.host.setRq n { s.host.rq n with state := .faulted }).raise (.queueFault .request n .positionInvalid))))
    ∧ ((s.host.rq n).state = .active → v.toNat < (s.host.rq n).size →
        exec (.rqTailWrite n v) s = .next (s.setHost (s.host.setRq n { s.host.rq n with tail := v.toNat }))
        ∧ ({ s.host.rq n with tail := v.toNat } : Rq).pendingCount =
            (v.toNat + (s.host.rq n).size - (s.host.rq n).head) % (s.host.rq n).size)

/-- A write of CQ HEAD[n] (R152): ignored by a ring that is not ACTIVE; valid when it consumes at most the unconsumed
records, modulo the size; otherwise it faults the ring and raises QUEUE_FAULT. -/
def Obligations.CompletionHeadWrite : Prop :=
  ∀ (s : State) (n : RingId) (v : BitVec 32), s.host.port.linkUp = true →
    let q := s.host.cq n
    let k := if q.head ≤ v.toNat then v.toNat - q.head else v.toNat + q.size - q.head
    (q.state ≠ .active → exec (.cqHeadWrite n v) s = .next s)
    ∧ (q.state = .active → q.head < q.size → v.toNat < q.size → k ≤ q.unconsumed → exec (.cqHeadWrite n v) s = .next (s.setHost
        (s.host.setCq n { q with head := v.toNat, unconsumed := q.unconsumed - k, armed := true })))
    ∧ (q.state = .active → q.head < q.size → (q.size ≤ v.toNat ∨ q.unconsumed < k) → exec (.cqHeadWrite n v) s = .next (s.setHost
        ((s.host.setCq n { q with state := .faulted }).raise (.queueFault .completion n .positionInvalid))))

/-- The event unit (R188, R190 to R193) and a write of EQ HEAD (R152, R192). A raised event of a disabled kind changes
nothing; one whose key is pending is folded into that entry, the count saturating at 255; another joins as newest, or, at
64 entries, is lost with the overflow flag set. After an event is entered, and after a head write that frees places, the
pending entries are written to the ACTIVE event ring, oldest first, while it has room, the overflow flag in the first
record; a posting outside the window, here the first, leaves its entry pending, faults the ring and raises QUEUE_FAULT. A
head write is ignored, consumes records, or faults the ring, as for a completion ring. The last clauses are the event
record's layout (12.4). -/
def Obligations.EventHeadWrite : Prop :=
  let places := fun g : HostSide => min g.events.entries.length (g.engine.eq.size - g.engine.eq.unconsumed)
  let inside := fun g : HostSide => ∀ j, j < places g →
    g.port.inWindow (g.engine.eq.base + 32 * ((g.engine.eq.tail + j) % g.engine.eq.size)) 32 = true
  let posted := fun g : HostSide =>
    let q := g.engine.eq
    let n := places g
    let lap := fun j => if q.tail + j < q.size then q.lap else !q.lap
    if n = 0 then g
    else ((g.setOut (g.out ++ ((g.events.entries.take n).mapIdx fun j en =>
        LinkMsg.write (q.base + 32 * ((q.tail + j) % q.size)) (eventRecord en (lap j) (g.events.overflow && j == 0))
          :: (if q.intEn = true ∧ q.armed = true ∧ j = 0 then [.interrupt q.vector] else [])).flatten)).setEq
      { q with tail := (q.tail + n) % q.size, lap := lap n, unconsumed := q.unconsumed + n,
               armed := q.armed && !q.intEn }).setEvents
      { g.events with entries := g.events.entries.drop n, overflow := false }
  (∀ (h : HostSide) (e : Event),
    let u := h.events
    let pending := ∃ en ∈ u.entries, en.event.key = e.key
    let enabled := u.enables.getLsbD (e.code - 1) = true
    let folded := u.entries.map fun en =>
      if en.event.key = e.key then { event := e, count := min 255 (en.count + 1) } else en
    let g := h.setEvents { u with
      entries := if u.hasKey e = true then folded else u.entries ++ [{ event := e, count := 1 }] }
    let q := h.engine.eq
    (u.hasKey e = true ↔ pending)
    ∧ (¬enabled → h.raise e = h)
    ∧ (enabled → ¬pending → 64 ≤ u.entries.length → h.raise e = h.setEvents { u with overflow := true })
    ∧ (enabled → pending ∨ u.entries.length < 64 →
      (q.state ≠ .active ∨ q.size ≤ q.unconsumed → h.raise e = g)
      ∧ (q.state = .active → q.tail < q.size → inside g → h.raise e = posted g)
      ∧ (q.state = .active → q.unconsumed < q.size → g.port.inWindow (q.base + 32 * q.tail) 32 = false →
          h.raise e = (g.setEq { q with state := .faulted }).raise (.queueFault .event 0 .postFailed))))
  ∧ (∀ (s : State) (v : BitVec 32), s.host.port.linkUp = true →
    let q := s.host.engine.eq
    let k := if q.head ≤ v.toNat then v.toNat - q.head else v.toNat + q.size - q.head
    let g := s.host.setEq { q with head := v.toNat, unconsumed := q.unconsumed - k, armed := true }
    (q.state ≠ .active → exec (.eqHeadWrite v) s = .next s)
    ∧ (q.state = .active → q.head < q.size → v.toNat < q.size → k ≤ q.unconsumed → k = 0 ∨ s.host.events.entries = [] →
        exec (.eqHeadWrite v) s = .next (s.setHost g))
    ∧ (q.state = .active → q.head < q.size → v.toNat < q.size → 0 < k → k ≤ q.unconsumed → q.tail < q.size → inside g →
        exec (.eqHeadWrite v) s = .next (s.setHost (posted g)))
    ∧ (q.state = .active → q.head < q.size → v.toNat < q.size → 0 < k → k ≤ q.unconsumed → q.unconsumed ≤ q.size →
        s.host.events.entries ≠ [] → s.host.port.inWindow (q.base + 32 * q.tail) 32 = false →
        exec (.eqHeadWrite v) s = .next (s.setHost ((g.setEq { g.engine.eq with state := .faulted }).raise
          (.queueFault .event 0 .postFailed))))
    ∧ (q.state = .active → q.head < q.size → (q.size ≤ v.toNat ∨ q.unconsumed < k) → exec (.eqHeadWrite v) s = .next (s.setHost
        ((s.host.setEq { q with state := .faulted }).raise (.queueFault .event 0 .positionInvalid)))))
  ∧ ∀ (en : EventEntry) (lap overflow : Bool),
    let record := eventRecord en lap overflow
    let at_ := fun off n => bytesToNat ((record.drop off).take n)
    -- kind, reason, ring kind, bank or channel, ring id, row, detail, pass
    let holds := fun kind reason ringKind bank ring row detail pass : Nat =>
      at_ 0 1 = kind ∧ at_ 2 1 = reason ∧ at_ 3 1 = ringKind ∧ at_ 4 2 = bank ∧ at_ 7 1 = ring ∧ at_ 8 2 = row
        ∧ at_ 10 1 = detail ∧ at_ 12 4 = pass
    record.length = 32 ∧ at_ 1 1 = en.count % 256 ∧ at_ 6 1 = (if lap then 1 else 0) + (if overflow then 2 else 0)
    ∧ at_ 11 1 = 0 ∧ at_ 16 16 = 0
    ∧ match en.event with
      | .formatDone final => holds 1 0 0 0 0 0 final.code 0
      | .channelFailed c => holds 2 0 0 c.val 0 0 0 0
      | .migrationDone b r i => holds 3 0 0 b.val 0 r.val i.val 0
      | .migrationFailed b r reason => holds 4 reason.code 0 b.val 0 r.val 0 0
      | .taintFound b r g => holds 5 0 0 b.val 0 r.val g.val 0
      | .healthTableFull b r => holds 6 0 0 b.val 0 r.val 0 0
      | .scrubPassDone n => holds 7 0 0 0 0 0 0 n.toNat
      | .queueFault k i reason => holds 8 reason.code k.code 0 i.val 0 0 0

/-- The hand-over of a completion (R153, R161, R166): on an ACTIVE ring whose place lies in the window the 32-byte record
is written at the tail with the ring's lap and its request ring's head, the reservation becomes an unconsumed record,
and an enabled, armed ring sends one interrupt message and is disarmed; on a FAULTED ring the record is discarded with
its reservation; a posting outside the window faults the ring. The last clauses are the completion record's
layout (12.3). -/
def Obligations.CompletionHandOver : Prop :=
  ∀ (h : HostSide) (c : Completion),
    let n := (h.rq c.ring).cq
    let q := h.cq n
    let a := q.base + 32 * q.tail
    (q.state = .active → h.port.windowLow.toNat ≤ a → a + 31 ≤ h.port.windowHigh.toNat →
      h.handOver c = (h.setOut (h.out ++ .write a (completionRecord c (h.rq c.ring).head q.lap)
          :: (if q.intEn = true ∧ q.armed = true then [.interrupt q.vector] else []))).setCq n
        { q with tail := (q.tail + 1) % q.size, lap := (if q.tail + 1 = q.size then !q.lap else q.lap),
                 unconsumed := q.unconsumed + 1, reserved := q.reserved - 1, armed := (q.armed && !q.intEn) })
    ∧ (q.state = .active → ¬(h.port.windowLow.toNat ≤ a ∧ a + 31 ≤ h.port.windowHigh.toNat) →
      h.handOver c = (h.setCq n { q with state := .faulted, reserved := q.reserved - 1 }).raise
        (.queueFault .completion n .postFailed))
    ∧ (q.state = .faulted → h.handOver c = h.setCq n { q with reserved := q.reserved - 1 })
    ∧ ∀ (head : Nat) (lap : Bool),
      let record := completionRecord c head lap
      let at_ := fun off n => bytesToNat ((record.drop off).take n)
      record.length = 32 ∧ at_ 0 2 = c.id.toNat ∧ at_ 2 1 = c.ring.val ∧ at_ 3 1 = c.status.code
      ∧ at_ 4 2 = head % 2 ^ 16 ∧ at_ 6 1 = (if lap then 1 else 0) ∧ at_ 7 1 = 0 ∧ at_ 8 8 = c.failAddr % 2 ^ 64
      ∧ at_ 16 4 = c.tainted % 2 ^ 32 ∧ at_ 20 4 = c.corrected % 2 ^ 32 ∧ at_ 24 4 = c.done % 2 ^ 32
      ∧ at_ 28 4 = c.result % 2 ^ 32

/-- The choice of the fetch arbiter (R155, R156): RQ0 whenever it is eligible; otherwise the eligible data ring that
comes first after the round-robin position, from 31 back to 1. Eligible is a ring that is ACTIVE with a record pending
and whose completion ring is ACTIVE with free credit; RQ0 also needs the configuration unit IDLE, and a data ring an
available slot that is not reserved. -/
def Obligations.ArbiterChoice : Prop :=
  ∀ h : HostSide,
    let rank := fun m : RingId => (m.val + 31 - h.engine.position.val) % 32
    let ready := fun n : RingId =>
      let r := h.rq n
      let q := h.cq r.cq
      r.state = .active ∧ (r.tail + r.size - r.head) % r.size ≠ 0 ∧ q.state = .active
        ∧ q.unconsumed + q.reserved < q.size
    (h.rq0Eligible = true ↔ ready 0 ∧ h.config = .idle)
    ∧ (∀ n, h.dataEligible n = true ↔ ready n ∧ h.tracker.reserved < h.tracker.availableSlots.length)
    ∧ (h.rq0Eligible = true → h.served = some 0)
    ∧ (h.rq0Eligible = false → ∀ n, h.served = some n ↔
        (n ≠ 0 ∧ h.dataEligible n = true ∧ ∀ m, m ≠ 0 → h.dataEligible m = true → rank n ≤ rank m))
    ∧ (h.served = none ↔ h.rq0Eligible = false ∧ ∀ m, m ≠ 0 → h.dataEligible m = false)

/-- FETCH_START serves a ring (R157): n is the smallest of burst, pending records, free credit and, for a data ring, the
slots available and not reserved; n credits and, for a data ring, n slots are reserved, the ring's mark is set, and
with every read of the fetch inside the window nothing of the rings else changes and, with places free, the reads are
sent in order. The reads of a fetch of n records read the 64 bytes of each place from the head on, in ring order, each
place at base + 64 × position, so in two runs where the places cross the end of the ring; each lies within one 4 KiB page
and has at most 512 bytes. That each read has a number of its own, and where else a run is split, are the model's (log
entries 9, 10). -/
def Obligations.FetchStartReserves : Prop :=
  (∀ (s : State) (i : RingId), s.host.engine.fetch = none → s.host.served = some i →
    let r := s.host.rq i
    let q := s.host.cq r.cq
    let pend := (r.tail + r.size - r.head) % r.size
    let credit := q.size - (q.unconsumed + q.reserved)
    let n := if i = 0 then min 1 (min pend credit)
             else min r.burst (min pend (min credit (s.host.tracker.availableSlots.length - s.host.tracker.reserved)))
    (∀ x ∈ r.fetchReads n, s.host.port.inWindow x.2.1 x.2.2 = true) →
    ∃ t, exec .fetchStart s = .next t
      ∧ t.host.cq r.cq = { q with reserved := q.reserved + n } ∧ t.host.rq i = { r with inFlight := true }
      ∧ t.host.engine.fetch = some { ring := i, handed := 0, recs := List.replicate n none }
      ∧ t.host.engine.position = (if i = 0 then s.host.engine.position else i)
      ∧ t.host.tracker = { s.host.tracker with
          reserved := s.host.tracker.reserved + (if i = 0 then 0 else n) }
      ∧ (∀ m, m ≠ i → t.host.rq m = s.host.rq m) ∧ (∀ m, m ≠ r.cq → t.host.cq m = s.host.cq m)
      ∧ t.host.engine.eq = s.host.engine.eq ∧ t.host.config = s.host.config ∧ t.host.events = s.host.events
      ∧ t.pool = s.pool
      ∧ t.host.port.nextRead = s.host.port.nextRead + (r.fetchReads n).length
      ∧ (s.host.port.sent.length + (r.fetchReads n).length ≤ 128 →
          t.host.port.sent = s.host.port.sent ++ ((r.fetchReads n).mapIdx fun j x =>
            { read := { id := s.host.port.nextRead + j, owner := x.1, addr := x.2.1, len := x.2.2 }, abandoned := false,
              bytes := List.replicate x.2.2 none })
          ∧ t.host.out = s.host.out ++ ((r.fetchReads n).mapIdx fun j x =>
            .read (s.host.port.nextRead + j) x.2.1 x.2.2)))
  ∧ ∀ (r : Rq) (n : Nat), r.head < r.size → n ≤ r.size →
    ((r.fetchReads n).flatMap fun x => (List.range x.2.2).map (x.2.1 + ·))
      = (List.range (64 * n)).map (fun i => r.base + 64 * ((r.head + i / 64) % r.size) + i % 64)
    ∧ (∀ x ∈ r.fetchReads n, 0 < x.2.2 ∧ x.2.2 ≤ 512 ∧ x.2.1 / 4096 = (x.2.1 + x.2.2 - 1) / 4096)
    ∧ ∀ older x younger, r.fetchReads n = older ++ x :: younger → x.1 = .fetch ((older.map (·.2.2)).sum / 64)

/-- Credit (R154). Every command keeps, from every state that has it, that unconsumed and reserved together never exceed
the size of an ACTIVE completion ring, that the reserved count is the number of completions promised to the records of
the fetch in flight, the occupied slots and the configuration command, and that the bound count is the number of request
rings bound. The reservation of a fetch and a head write keep the first of these by itself. -/
def Obligations.CreditNeverExceeded : Prop :=
  (∀ (s t : State) (c : Instr), s.host.creditSafe → exec c s = .next t → t.host.creditSafe)
  ∧ ∀ (s t : State) (c : Instr),
    (∀ n, (s.host.cq n).state = .active → (s.host.cq n).unconsumed + (s.host.cq n).reserved ≤ (s.host.cq n).size) →
    s.host.quiescent →
    (c = .fetchStart ∨ ∃ n v, c = .cqHeadWrite n v) → exec c s = .next t →
    ∀ n, (t.host.cq n).state = .active → (t.host.cq n).unconsumed + (t.host.cq n).reserved ≤ (t.host.cq n).size

/-! ## Host reads (R198) and what their bytes are to the blocks -/

/-- A part of an answer that leaves bytes of its read missing is kept at its place, and nothing else changes (R198).
That a byte brought again replaces the one before it and that bytes beyond the read are ignored is the model's reading
(log entry 16); an answer to a read that holds no place is discarded, and a timer for one, an event that cannot occur,
changes nothing (log entry 1). -/
def Obligations.AnswerPartIsKept : Prop :=
  ∀ (s : State) (id off : Nat) (bytes : List Byte),
    (∀ r, s.host.port.sentRead? id = some r →
      (∃ i, r.bytes[i]? = some none ∧ (i < off ∨ off + bytes.length ≤ i)) →
      ∃ got : List (Option Byte), got.length = r.bytes.length
        ∧ (∀ i, i < r.bytes.length → got[i]? =
            if off ≤ i ∧ i < off + bytes.length then some (bytes[i - off]?) else r.bytes[i]?)
        ∧ exec (.hostReadAnswer id (.data off bytes)) s = .next (s.setHost (s.host.setPort { s.host.port with
            sent := s.host.port.sent.map fun x => if x.read.id = id then { x with bytes := got } else x })))
    ∧ (s.host.port.sentRead? id = none → ∀ part, exec (.hostReadAnswer id part) s = .next s
        ∧ exec (.hostReadTimeout id) s = .next s)

/-- A read that its requester has abandoned frees its place at its whole answer, at a completion error or at its timer,
and hands nothing over (R198); here with no read waiting for the place. -/
def Obligations.AbandonedReadFreesItsPlace : Prop :=
  ∀ (s : State) (id : Nat) (r : SentRead) (c : Instr), s.host.port.sentRead? id = some r → r.abandoned = true →
    s.host.port.waiting = [] →
    (c = .hostReadTimeout id ∨ c = .hostReadAnswer id .completionError
      ∨ ∃ bytes, c = .hostReadAnswer id (.data 0 bytes) ∧ bytes.length = r.bytes.length) →
    exec c s = .next (s.setHost (s.host.setPort { s.host.port with
      sent := s.host.port.sent.filter fun x => x.read.id != id }))

/-- The record of RQ0 arrives (R151, R158, R170, R171): the head advances, the fetch ends, and the configuration unit
holds the command the record names, or, for a kind that is no configuration kind, hands over a BAD_KIND refusal. -/
def Obligations.ConfigurationRecordIsTaken : Prop :=
  ∀ (s : State) (r : HostRead) (bytes : List Byte),
    s.host.port.sent = [{ read := r, abandoned := false, bytes := List.replicate 64 none }] →
    s.host.port.waiting = [] → r.owner = .fetch 0 → bytes.length = 64 →
    s.host.engine.fetch = some { ring := 0, handed := 0, recs := [none] } → s.host.config = .idle →
    s.host.quiescent →
    let record := blockOfBytes bytes
    let q := s.host.rq 0
    let h := ((s.host.setPort { s.host.port with sent := [] }).setRq 0
      { q with head := (q.head + 1) % q.size, inFlight := false }).setFetch none
    (∀ cmd, configCmdOf? record = some cmd → exec (.hostReadAnswer r.id (.data 0 bytes)) s =
        .next (s.setHost (h.setConfig (.executing (recordId record) cmd none))))
    ∧ (configCmdOf? record = none → ∃ t, exec (.hostReadAnswer r.id (.data 0 bytes)) s = .next t
        ∧ t.host.config = .idle ∧ t.host.engine.fetch = none ∧ (t.host.rq 0).head = (q.head + 1) % q.size
        ∧ t.host.tracker = s.host.tracker ∧ t.pool = s.pool
        ∧ t.host.out = (h.handOver (refusal (recordId record) 0 .badKind)).out)

/-- Records (R110, R203, 12.1, 12.2, 12.9): a field is the number whose least significant byte stands at the lowest
offset, and writing a number and reading it back gives its low bytes. Byte 0 names the kind by its code, 01h to 05h a data
kind, 40h to 4Ah a configuration kind, and the fields of each stand at the bytes of its layout; so do the fields of a buffer
list entry (12.5) and of a map entry read by MAP LOAD (12.6), each entry after the one before it. -/
def Obligations.RecordFields : Prop :=
  (∀ (bytes : List Byte) (off n : Nat), bytes.length = 64 → off + n ≤ 64 →
      field (blockOfBytes bytes) off n = bytesToNat ((bytes.drop off).take n))
    ∧ (∀ n v : Nat, (natToBytes n v).length = n ∧ bytesToNat (natToBytes n v) = v % 256 ^ n)
    ∧ (∀ bytes : List Byte, natToBytes bytes.length (bytesToNat bytes) = bytes)
    ∧ (∀ r : Block, ((dataReqOf? r).isSome = true ↔ 0x01 ≤ r.toNat % 256 ∧ r.toNat % 256 ≤ 0x05)
      ∧ ((configCmdOf? r).isSome = true ↔ 0x40 ≤ r.toNat % 256 ∧ r.toNat % 256 ≤ 0x4A))
    ∧ (∀ bytes : List Byte, bytes.length = 64 →
      let r := blockOfBytes bytes
      let f := fun off n => bytesToNat ((bytes.drop off).take n)
      let data := fun kind : DataKind => dataReqOf? r = some
        { kind := kind, fence := (f 1 1).testBit 0, useList := (f 1 1).testBit 1, id := BitVec.ofNat 16 (f 2 2),
          len := f 4 4, a := f 8 8, b := f 16 8, host := f 24 8, listCount := f 32 2,
          pattern := BitVec.ofNat 64 (f 40 8) }
      let command := fun c : ConfigCmd => configCmdOf? r = some c
      recordId r = BitVec.ofNat 16 (f 2 2)
      ∧ (f 0 1 = 0x01 → data .read) ∧ (f 0 1 = 0x02 → data .write) ∧ (f 0 1 = 0x03 → data .copy)
      ∧ (f 0 1 = 0x04 → data .fill) ∧ (f 0 1 = 0x05 → data .verify)
      ∧ (f 0 1 = 0x40 → command (.queueCreate (f 4 1) (f 5 1) (f 6 2) (f 8 8) (BitVec.ofNat 8 (f 16 1))
          (BitVec.ofNat 8 (f 17 1))))
      ∧ (f 0 1 = 0x41 → command (.queueDelete (f 4 1) (f 5 1) ((f 6 1).testBit 0)))
      ∧ (f 0 1 = 0x42 → command (.eventQueueSet (f 6 2) (f 8 8) (f 16 1) ((f 17 1).testBit 0)))
      ∧ (f 0 1 = 0x43 → command (.setParameters (f 4 4) (f 8 1) (BitVec.ofNat 8 (f 9 1))))
      ∧ (f 0 1 = 0x44 → command (.poolFormat (f 4 4))) ∧ (f 0 1 = 0x45 → command (.mapRead (f 4 4) (f 8 8)))
      ∧ (f 0 1 = 0x46 → command (.mapLoad (f 4 4) (f 8 8))) ∧ (f 0 1 = 0x47 → command (.healthRead (f 4 4) (f 8 8)))
      ∧ (f 0 1 = 0x48 → command .healthClear) ∧ (f 0 1 = 0x49 → command (.migrateRow (f 4 2) (f 8 4)))
      ∧ (f 0 1 = 0x4A → command (.statusRead (f 8 8))))
    ∧ ∀ (bytes : List Byte) (n i : Nat), i < n →
      let f := fun off n => bytesToNat ((bytes.drop off).take n)
      (listEntries n bytes).length = n ∧ (mapEntries n bytes).length = n
      ∧ (listEntries n bytes)[i]? = some { host := f (16 * i) 8, len := f (16 * i + 8) 4 }
      ∧ (mapEntries n bytes)[i]? = some
          { bank := f (8 * i) 2, spare := f (8 * i + 2) 1, state := f (8 * i + 3) 1, row := f (8 * i + 4) 4 }

/-- The checks of intake in their order (R109, R111, R112): the first that fails decides the refusal. -/
def Obligations.IntakeChecks : Prop :=
  ∀ (q : DataReq) (ps : PoolState) (t : Tracker) (ring : RingId),
    let notReady := ps = .offline ∨ ps = .formatting
    let badRange := q.len < 8 ∨ 16777216 < q.len ∨ q.len % 8 ≠ 0 ∨ q.a % 8 ≠ 0 ∨ 2 ^ 35 < q.a + q.len
      ∨ (q.kind = .copy ∧ (q.b % 8 ≠ 0 ∨ 2 ^ 35 < q.b + q.len))
    let overlap := q.kind = .copy ∧ ∃ x, (q.a ≤ x ∧ x < q.a + q.len) ∧ q.b ≤ x ∧ x < q.b + q.len
    let badList := q.useList = true ∧ (q.kind = .read ∨ q.kind = .write) ∧ (q.listCount = 0 ∨ 256 < q.listCount)
    let duplicate := ∃ x ∈ t.slots, x.ring = ring ∧ x.req.id = q.id
    (notReady → q.refusal? ps t ring = some .poolNotReady)
    ∧ (¬notReady → badRange → q.refusal? ps t ring = some .badRange)
    ∧ (¬notReady → ¬badRange → overlap → q.refusal? ps t ring = some .overlap)
    ∧ (¬notReady → ¬badRange → ¬overlap → badList → q.refusal? ps t ring = some .badList)
    ∧ (¬notReady → ¬badRange → ¬overlap → ¬badList → duplicate → q.refusal? ps t ring = some .duplicateId)
    ∧ (¬notReady → ¬badRange → ¬overlap → ¬badList → ¬duplicate → q.refusal? ps t ring = none)

/-- Records of a data ring arrive (R109, R113, R128, R132, R136, R151, R158). They are handed to intake in ring order, each
once its bytes and those of every earlier one are there, the head advancing at each; bytes that come before those of an
earlier record are kept at their place. With the last record the fetch ends. Handed over, a record uses or returns its slot
reservation: a kind that is no data kind, or a check that fails, hands over a refusal, and no slot changes; a record that
passes occupies the lowest-numbered available slot, whose tag rises by one, at the end of the intake order, FENCED behind an
earlier slot of its ring and else ISSUING, or LOADING_LIST with its list asked for; a WRITE asks for its first 16 granules.
The numbers of the reads and their split are the model's (log entries 9, 10); so is that the place of the answered read frees
after the hand-overs (log entry 16), and that next to issue of a COPY slot, too, is granule 0 (log entry 32). -/
def Obligations.DataRecordOccupiesSlot : Prop :=
  -- host side `g` is `h` after `record` of ring `ring` has been handed to intake
  let handed := fun (ps : PoolState) (ring : RingId) (h : HostSide) (record : Block) (g : HostSide) =>
    let rq := h.rq ring
    let h1 := (h.setRq ring { rq with head := (rq.head + 1) % rq.size }).setTracker
      { h.tracker with reserved := h.tracker.reserved - 1 }
    let refused := fun (id : BitVec 16) (st : Status) => g = h1.handOver (refusal id ring st)
    (dataReqOf? record = none → refused (recordId record) .badKind)
    ∧ ∀ q : DataReq, dataReqOf? record = some q →
      (∀ st, q.refusal? ps h.tracker ring = some st → refused q.id st)
      ∧ ∀ n : SlotNo, q.refusal? ps h.tracker ring = none → h.tracker.slot? n = none → h.tracker.outstanding[n] = 0 →
        (∀ m, m < n → h.tracker.slot? m ≠ none ∨ h.tracker.outstanding[m] ≠ 0) →
        let tag := h.tracker.tags[n] + 1
        let fenced := q.fence = true ∧ ∃ x ∈ h.tracker.slots, x.ring = ring
        let list := q.useList = true ∧ (q.kind = .read ∨ q.kind = .write)
        let fresh := Slot.fresh n tag ring q .issuing
        let occupied := fun x : Slot => { h1.tracker with
          slots := h.tracker.slots ++ [x], tags := h.tracker.tags.set n tag }
        let reads := fun (x : Slot) (zs : List (Owner × Nat × Nat)) =>
          h.port.sent.length + zs.length ≤ 128 → (∀ z ∈ zs, h.port.inWindow z.2.1 z.2.2 = true) →
          g.tracker = occupied x ∧ g.engine = h1.engine ∧ g.config = h.config ∧ g.events = h.events
          ∧ g.port.nextRead = h.port.nextRead + zs.length ∧ g.port.sent.length = h.port.sent.length + zs.length
          ∧ g.out = h.out ++ (zs.mapIdx fun j z => .read (h.port.nextRead + j) z.2.1 z.2.2)
        let m := min 16 q.count
        (fenced → g = h1.setTracker (occupied { fresh with state := .fenced }))
        ∧ (¬fenced → ¬list → q.kind ≠ .write → g = h1.setTracker (occupied fresh))
        ∧ (¬fenced → list → reads { fresh with state := .loadingList } fresh.listReads)
        ∧ (¬fenced → ¬list → q.kind = .write → reads
            { fresh with staging := (List.range m).map (fun k => { gran := k, pieces := [] }), askNext := m }
            ((List.range m).flatMap fresh.dataReads))
  ∀ (s : State) (r : HostRead) (f : Fetch) (bytes : List Byte),
    s.host.port.sentRead? r.id = some { read := r, abandoned := false, bytes := List.replicate bytes.length none } →
    s.host.engine.fetch = some f → f.ring ≠ 0 → s.host.quiescent →
    -- the read has ended, and its place frees once its end has been handed over
    let h := (s.host.endRead r.id).setFetch none
    let answers := fun g : HostSide => exec (.hostReadAnswer r.id (.data 0 bytes)) s = .next (s.setHost (g.freePlace r.id))
    (∀ (k : Nat) (later : List Block) (missing : List (Option Block)), 0 < k → bytes.length = 64 * k →
      r.owner = .fetch f.handed → f.recs = List.replicate k none ++ later.map some ++ missing →
      (missing = [] ∨ missing.head? = some none) →
      let records := (List.range k).map (fun i => blockOfBytes ((bytes.drop (64 * i)).take 64)) ++ later
      ∃ (gs : List HostSide) (g : HostSide), gs.length = records.length + 1 ∧ gs[0]? = some h
        ∧ gs[records.length]? = some g
        ∧ (∀ i a b record, gs[i]? = some a → gs[i + 1]? = some b → records[i]? = some record →
            handed s.pool.control.state f.ring a record b)
        ∧ (missing = [] → answers (g.setRq f.ring { g.rq f.ring with inFlight := false }))
        ∧ (missing ≠ [] → answers
            (g.setFetch (some { f with handed := f.handed + records.length, recs := missing }))))
    ∧ ∀ (i : Nat) (tail : List (Option Block)), bytes.length = 64 → r.owner = .fetch (f.handed + i + 1) →
      f.recs = none :: tail →
      answers (h.setFetch (some { f with recs := none :: tail.set i (some (blockOfBytes bytes)) }))

/-- A host read of a fetch fails, by a completion error or by its timer (R159, R165): the records not handed over give
back their credits and slots, the fetch ends, an ACTIVE ring becomes FAULTED, and QUEUE_FAULT with FETCH_FAILED is raised
unless the ring was FAULTED. Here with the event ring ABSENT, so that the event waits. -/
def Obligations.FetchFailure : Prop :=
  ∀ (s : State) (id : Nat) (r : SentRead) (f : Fetch) (k : Nat) (c : Instr),
    s.host.port.sentRead? id = some r → r.abandoned = false → r.read.owner = .fetch k →
    s.host.engine.fetch = some f → s.host.quiescent → s.host.engine.eq.state = .absent →
    (c = .hostReadTimeout id ∨ c = .hostReadAnswer id .completionError) →
    let q := s.host.rq f.ring
    ∃ t, exec c s = .next t
      ∧ t.host.rq f.ring = { q with state := if q.state = .active then .faulted else q.state, inFlight := false }
      ∧ t.host.cq q.cq = { s.host.cq q.cq with reserved := (s.host.cq q.cq).reserved - f.recs.length }
      ∧ (∀ m, m ≠ f.ring → t.host.rq m = s.host.rq m) ∧ (∀ m, m ≠ q.cq → t.host.cq m = s.host.cq m)
      ∧ t.host.engine.fetch = none ∧ t.host.tracker.slots = s.host.tracker.slots
      ∧ t.host.tracker.reserved = s.host.tracker.reserved - (if f.ring = 0 then 0 else f.recs.length)
      ∧ t.host.events = (if q.state = .faulted then s.host.events
          else s.host.events.take (.queueFault .request f.ring .fetchFailed))
      ∧ (∀ x ∈ t.host.port.sent, x.read.owner.isFetch = true → x.abandoned = true)
      ∧ (∀ x ∈ t.host.port.waiting, x.owner.isFetch = false) ∧ t.host.config = s.host.config ∧ t.pool = s.pool

/-- The first failed host read of a WRITE's data (R120, R138): HOST_ACCESS is marked, nothing more is issued or read for
the slot, and it waits for its operations at the banks; the pool is not touched. -/
def Obligations.WriteDataFailure : Prop :=
  ∀ (s : State) (id : Nat) (r : SentRead) (n : SlotNo) (g off : Nat) (x : Slot) (c : Instr),
    s.host.port.sentRead? id = some r → r.abandoned = false → r.read.owner = .slotData n g off →
    s.host.tracker.safe → s.host.quiescent → s.host.tracker.slot? n = some x → x.hostAccess = false →
    x.ended ≠ x.issued → (c = .hostReadTimeout id ∨ c = .hostReadAnswer id .completionError) →
    ∃ t, exec c s = .next t
      ∧ t.host.tracker.slot? n = some { x with
          hostAccess := true, next := none, held := none, staging := [], state := .awaiting
          copy := { x.copy with kept := [], ready := [] } }
      ∧ (∀ m, m ≠ n → t.host.tracker.slot? m = s.host.tracker.slot? m)
      ∧ (∀ y ∈ t.host.port.sent, y.read.owner.ofSlot n = true → y.abandoned = true)
      ∧ (∀ y ∈ t.host.port.waiting, y.owner.ofSlot n = false)
      ∧ t.host.engine = s.host.engine ∧ t.host.events = s.host.events ∧ t.host.config = s.host.config ∧ t.pool = s.pool

/-- The whole buffer list arrives (R107, R132, R136): a list whose entry lengths are nonzero multiples of 8 with sum L is
kept and the slot enters ISSUING, a WRITE asking for the bytes of its first 16 granules; any other list is a
LIST_MISMATCH, with which the request completes at once, no operation having been issued. The reads of a list cover its 16
bytes an entry from the record's host address on; those of a WRITE granule cover its bytes in the range, from the host
address plus the request offset or in the list buffers they lie in. The numbers of the reads and their split are the model's
(log entries 9, 10). -/
def Obligations.BufferListArrives : Prop :=
  let addresses := fun zs : List (Owner × Nat × Nat) => zs.flatMap fun z => (List.range z.2.2).map (z.2.1 + ·)
  let allowed := fun z : Owner × Nat × Nat => 0 < z.2.2 ∧ z.2.2 ≤ 512 ∧ z.2.1 / 4096 = (z.2.1 + z.2.2 - 1) / 4096
  (∀ x : Slot, addresses x.listReads = (List.range (16 * x.req.listCount)).map (x.req.host + ·)
    ∧ (∀ z ∈ x.listReads, allowed z)
    ∧ ∀ older z younger, x.listReads = older ++ z :: younger → z.1 = .slotList x.num (older.map (·.2.2)).sum)
  ∧ (∀ (x : Slot) (k : Nat),
    let base := (x.req.a / 64 + k) * 64
    let lo := max x.req.a base
    let len := min (x.req.a + x.req.len) (base + 64) - lo
    let buffers := if x.req.useList = true then listSegments x.list (lo - x.req.a) len
      else [(x.req.host + (lo - x.req.a), len)]
    addresses (x.dataReads k) = buffers.flatMap (fun p => (List.range p.2).map (p.1 + ·))
    ∧ (∀ z ∈ x.dataReads k, allowed z ∧ ∃ p ∈ buffers, p.1 ≤ z.2.1 ∧ z.2.1 + z.2.2 ≤ p.1 + p.2)
    ∧ ∀ older z younger, x.dataReads k = older ++ z :: younger →
        z.1 = .slotData x.num k (older.map (·.2.2)).sum)
  ∧ ∀ (s : State) (r : HostRead) (n : SlotNo) (x : Slot) (bytes : List Byte),
    s.host.port.sent = [{ read := r, abandoned := false, bytes := List.replicate bytes.length none }] →
    s.host.port.waiting = [] → r.owner = .slotList n 0 → s.host.quiescent → s.host.tracker.slots = [x] →
    x.num = n → x.state = .loadingList → x.listPieces = [] →
    bytes.length = 16 * x.req.listCount → 0 < x.req.listCount →
    let es := listEntries x.req.listCount bytes
    let consistent := (∀ e ∈ es, e.len ≠ 0 ∧ e.len % 8 = 0) ∧ (es.map (·.len)).sum = x.req.len
    let h := s.host.setPort { s.host.port with sent := [] }
    let y : Slot := { x with state := .issuing, list := es }
    let m := min 16 x.req.count
    let reads := (List.range m).flatMap y.dataReads
    (consistent → x.req.kind = .read → exec (.hostReadAnswer r.id (.data 0 bytes)) s =
      .next (s.setHost (h.setTracker { s.host.tracker with slots := [y] })))
    ∧ (consistent → x.req.kind = .write → x.staging = [] → x.askNext = 0 → reads.length < 128 →
      (∀ z ∈ reads, s.host.port.inWindow z.2.1 z.2.2 = true) →
      ∃ t, exec (.hostReadAnswer r.id (.data 0 bytes)) s = .next t
        ∧ t.host.tracker = { s.host.tracker with slots := [{ y with
            staging := (List.range m).map (fun g => { gran := g, pieces := [] }), askNext := m }] }
        ∧ t.host.out = s.host.out ++ (reads.mapIdx fun j z => .read (s.host.port.nextRead + j) z.2.1 z.2.2)
        ∧ t.host.engine = s.host.engine ∧ t.host.config = s.host.config ∧ t.host.events = s.host.events
        ∧ t.pool = s.pool)
    ∧ (¬consistent → x.aborted = false → x.hostAccess = false → x.issued = x.ended →
      let done := h.handOver { id := x.req.id, ring := x.ring, status := .listMismatch, failAddr := x.failAddr.getD 0,
                               tainted := x.tainted, corrected := x.corrected, done := x.done, result := 0 }
      ∃ t, exec (.hostReadAnswer r.id (.data 0 bytes)) s = .next t
        ∧ t.host.tracker = { s.host.tracker with slots := [] } ∧ t.host.out = done.out ∧ t.host.engine = done.engine
        ∧ t.host.events = done.events ∧ t.host.config = s.host.config ∧ t.pool = s.pool)

/-! ## Requests and their slots (chapters 6 and 7) -/

/-- The granules of a range (R108): a word of a touched granule is in its mask exactly when the word lies in the range, a
granule is whole exactly when all its 64 bytes do, only the first and the last granule can be partial, a granule's
address is its lowest address in the range, all its bytes have one bank, row and granule, and every byte of the range
lies in a touched granule, whose number is the rule's. -/
def Obligations.GranulesOfARange : Prop :=
  ∀ p len : Nat, p % 8 = 0 → len % 8 = 0 → 0 < len →
    (∀ k, k < touchedCount p len →
      (∀ w, w < 8 → ((touchedMask p len k).getLsbD w = true ↔
        p ≤ (p / 64 + k) * 64 + 8 * w ∧ (p / 64 + k) * 64 + 8 * w < p + len))
      ∧ (touchedWhole p len k = true ↔ p ≤ (p / 64 + k) * 64 ∧ (p / 64 + k) * 64 + 64 ≤ p + len)
      ∧ touchedMask p len k ≠ 0
      ∧ (touchedWhole p len k = false →
          (k = 0 ∧ p % 64 ≠ 0) ∨ (k + 1 = touchedCount p len ∧ (p + len) % 64 ≠ 0))
      ∧ (p ≤ touchedLo p k ∧ touchedLo p k < p + len ∧ touchedLo p k / 64 = p / 64 + k)
      ∧ (∀ a, p ≤ a → a / 64 = p / 64 + k → touchedLo p k ≤ a)
      ∧ ∀ (st : Stride) (a : Nat), a / 64 = p / 64 + k → st.bankOf a = st.bankOf ((p / 64 + k) * 64)
          ∧ st.rowOf a = st.rowOf ((p / 64 + k) * 64) ∧ st.granOf a = st.granOf ((p / 64 + k) * 64))
    ∧ touchedCount p len = (p + len - 1) / 64 - p / 64 + 1
    ∧ ∀ a, p ≤ a → a < p + len → ∃ k, k < touchedCount p len ∧ (p / 64 + k) * 64 ≤ a ∧ a < (p / 64 + k) * 64 + 64

/-- The operation a slot offers for its next granule (R114 to R119, R133, R135, R136), at the bank, row and granule of the
decomposition: READ for a READ request, CHECK for a VERIFY, WRITE or MERGE by whole or partial granule for a FILL, and for
a WRITE once all its staged bytes have arrived. A COPY offers its lowest ready destination operation, else its next source
READ. A destination granule is decided once every source granule that shares a byte with it has ended: not issued after a
CHANNEL_FAILED, else MARK after a TAINTED, else WRITE or MERGE of the source bytes, joining the ready list in its order. -/
def Obligations.OfferedOperation : Prop :=
  (∀ (x : Slot) (st : Stride) (k : Nat), x.next = some k →
    let a := (x.req.a / 64 + k) * 64
    let at_ := fun kind : OpKind => some ({ kind := kind, issuer := .slot x.num x.tag, bank := st.bankOf a,
                                            row := st.rowOf a, gran := st.granOf a } : BankOp)
    (x.req.kind = .read → x.nextOp? st = at_ .read) ∧ (x.req.kind = .verify → x.nextOp? st = at_ .check)
    ∧ (x.req.kind = .fill → touchedWhole x.req.a x.req.len k = true → ∃ d, x.nextOp? st = at_ (.write d)
        ∧ ∀ w, w < 8 → blockWord d w = x.req.pattern)
    ∧ (x.req.kind = .fill → touchedWhole x.req.a x.req.len k = false →
        ∃ d, x.nextOp? st = at_ (.merge (touchedMask x.req.a x.req.len k) d)
          ∧ ∀ w, w < 8 → blockWord d w = x.req.pattern)
    ∧ (x.req.kind = .write → (∀ z ∈ x.staging, z.gran ≠ k) → x.nextOp? st = none)
    ∧ ∀ older z younger, x.req.kind = .write → x.staging = older ++ z :: younger → z.gran = k →
        (∀ y ∈ older, y.gran ≠ k) →
        let bytes := z.pieces.flatMap (·.bytes)
        let lo := max x.req.a a
        let len := min (x.req.a + x.req.len) (a + 64) - lo
        (bytes.length ≠ len → x.nextOp? st = none)
        ∧ (bytes.length = len → lo < a + 64 → ∃ d, blockBytes d (lo - a) len = bytes
          ∧ (touchedWhole x.req.a x.req.len k = true → x.nextOp? st = at_ (.write d))
          ∧ (touchedWhole x.req.a x.req.len k = false →
              x.nextOp? st = at_ (.merge (touchedMask x.req.a x.req.len k) d))))
  ∧ (∀ (x : Slot) (st : Stride), x.req.kind = .copy →
    let at_ := fun (a : Nat) (kind : OpKind) => some ({ kind := kind, issuer := .slot x.num x.tag, bank := st.bankOf a,
                                                        row := st.rowOf a, gran := st.granOf a } : BankOp)
    (∀ j kind rest, x.copy.ready = (j, kind) :: rest → x.nextOp? st = at_ ((x.req.b / 64 + j) * 64) kind)
    ∧ (x.copy.ready = [] → x.copy.source < x.req.count →
        x.nextOp? st = at_ ((x.req.a / 64 + x.copy.source) * 64) .read)
    ∧ (x.copy.ready = [] → x.req.count ≤ x.copy.source → x.nextOp? st = none))
  ∧ (∀ (q : DataReq) (j : Nat), q.a % 8 = 0 → q.b % 8 = 0 → q.len % 8 = 0 → 0 < q.len → j < q.destCount →
    ∀ k, k ∈ q.feeders j ↔ ∃ i, i < q.len ∧ (q.b + i) / 64 = q.b / 64 + j ∧ (q.a + i) / 64 = q.a / 64 + k)
  ∧ ∀ (x : Slot) (j : Nat),
    let q := x.req
    let y := x.decideDest j
    let feeds := fun z : Kept => z.gran ∈ q.feeders j
    let ended := ∀ k ∈ q.feeders j, ∃ z ∈ x.copy.kept, z.gran = k
    let failed := ∃ z ∈ x.copy.kept, feeds z ∧ z.result = .channelFailed
    let tainted := ∃ z ∈ x.copy.kept, feeds z ∧ z.result = .tainted
    let joins := fun kind : OpKind => ∃ l r, x.copy.ready = l ++ r ∧ y.copy.ready = l ++ (j, kind) :: r
      ∧ (∀ e ∈ l, e.1 ≤ j) ∧ ∀ e, r.head? = some e → j < e.1
    (¬ended → y = x)
    ∧ (ended → y = { x with copy := { x.copy with kept := y.copy.kept, ready := y.copy.ready, done := y.copy.done } }
        ∧ ∀ z, z ∈ y.copy.kept ↔ z.feeds ≠ [] ∧ ∃ w ∈ x.copy.kept, z = { w with feeds := w.feeds.filter fun i => i != j })
    ∧ (ended → failed → y.copy.ready = x.copy.ready ∧ y.copy.done = x.copy.done + 1)
    ∧ (ended → ¬failed → y.copy.done = x.copy.done ∧ (tainted → joins .mark)
        ∧ (¬tainted → ∃ d, joins (if touchedWhole q.b q.len j = true then .write d
            else .merge (touchedMask q.b q.len j) d)
          ∧ ∀ w, w < 8 →
            let at_ := (q.b / 64 + j) * 64 + 8 * w
            let from_ := at_ - q.b + q.a
            q.b ≤ at_ → at_ < q.b + q.len →
            ∀ older z younger, x.copy.kept = older ++ z :: younger → z.gran = from_ / 64 - q.a / 64 →
              (∀ e ∈ older, e.gran ≠ z.gran) → blockWord d w = blockWord z.data (from_ % 64 / 8)))

/-- ISSUE_GRANULE_OPERATION with a place free at an ACTIVE channel's bank (R28, R29, R129, R133): the operation arrives
there, taken at once if nothing is in progress and waiting as the youngest otherwise; the slot and the tracker count it;
no other bank and no granule changes. -/
def Obligations.IssueAdmitted : Prop :=
  ∀ (s : State) (n : SlotNo) (x : Slot) (o : BankOp),
    s.host.tracker.safe → s.host.quiescent → s.host.tracker.slot? n = some x → x.state = .issuing → x.held = none →
    x.ended ≤ x.issued → x.nextOp? s.pool.control.stride = some o →
    s.pool.channels[bankChannel o.bank] = .active → (s.pool.bank o.bank).generalCount < 30 →
    let k := s.pool.bank o.bank
    ∃ t y, exec (.issueGranuleOperation n) s = .next t
      ∧ t.pool = s.pool.setBank o.bank (if k.cur = none then
          { k with state := .working, openRow := some o.row, retry := 0
                   cur := some { op := o, source := s.pool.lookup o.bank o.row
                                 mig := k.record.bind fun m => if m.row = o.row then some (m.target, m.cursor) else none } }
        else { k with waiting := k.waiting ++ [o] })
      ∧ t.host.tracker.slot? n = some y ∧ y.issued = x.issued + 1 ∧ y.ended = x.ended ∧ y.held = none
      ∧ (∀ m, m ≠ n → t.host.tracker.slot? m = s.host.tracker.slot? m)
      ∧ t.host.tracker.outstanding = s.host.tracker.outstanding.set n (s.host.tracker.outstanding[n] + 1)
      ∧ t.host.tracker.opsOut = s.host.tracker.opsOut + 1 ∧ t.host.tracker.tags = s.host.tracker.tags
      ∧ t.host.engine = s.host.engine ∧ t.host.config = s.host.config ∧ t.host.events = s.host.events

/-- ISSUE_GRANULE_OPERATION with every general place of an ACTIVE channel's bank taken (R134): the operation becomes the
slot's held operation, and a slot that holds one issues nothing else. -/
def Obligations.IssueHeld : Prop :=
  ∀ (s : State) (n : SlotNo) (x : Slot), s.host.tracker.slot? n = some x →
    (∀ o, x.state = .issuing → x.held = none → x.nextOp? s.pool.control.stride = some o →
      s.pool.channels[bankChannel o.bank] = .active → 30 ≤ (s.pool.bank o.bank).generalCount →
      exec (.issueGranuleOperation n) s =
        .next (s.setHost (s.host.modifySlot n fun y => { y with held := some o })))
    ∧ (x.state ≠ .issuing ∨ x.held ≠ none → exec (.issueGranuleOperation n) s = .next s)

/-- An operation issued to a bank of a FAILED channel (R38, R129, R139) ends at once with CHANNEL_FAILED: no bank, granule
or report changes, and the slot counts it issued and ended. Here for a VERIFY that goes on afterwards. -/
def Obligations.IssueToFailedChannel : Prop :=
  ∀ (s : State) (n : SlotNo) (x : Slot) (k : Nat),
    s.host.tracker.safe → s.host.quiescent → s.host.tracker.slot? n = some x → x.state = .issuing → x.held = none →
    x.req.kind = .verify → x.next = some k → k + 1 < x.req.count →
    let a := (x.req.a / 64 + k) * 64
    let lo := max x.req.a (s.pool.control.stride.address (s.pool.control.stride.bankOf a)
      (s.pool.control.stride.rowOf a) (s.pool.control.stride.granOf a) 0)
    s.pool.channels[bankChannel (s.pool.control.stride.bankOf a)] = .failed →
    ∃ t, exec (.issueGranuleOperation n) s = .next t ∧ t.pool = s.pool
      ∧ t.host.tracker.slot? n = some { x with
          issued := x.issued + 1, ended := x.ended + 1, next := some (k + 1), channelFailed := true
          failAddr := some (match x.failAddr with | none => lo | some f => min f lo)
          staging := x.staging.filter fun y => y.gran != k }
      ∧ t.host.tracker.opsOut = s.host.tracker.opsOut ∧ t.host.engine = s.host.engine ∧ t.host.out = s.host.out

/-- A result that comes back (R122, R129, R139): it is counted back for its slot number. Where the slot is FREE or holds
another tag nothing else changes; where it holds the tag the result is gathered: operations ended, granules done,
corrected and tainted counts, and the lowest failing address; the latter here for a request that delivers nothing and
copies nothing. -/
def Obligations.ResultComesBack : Prop :=
  ∀ (h : HostSide) (st : Stride) (e : OpEnd) (n : SlotNo) (tag : SlotTag), e.op.issuer = .slot n tag →
    let lo := fun x : Slot => max x.req.a (st.address e.op.bank e.op.row e.op.gran 0)
    let fails := e.result = .tainted ∨ e.result = .channelFailed
    let back := h.setTracker { h.tracker with
      outstanding := h.tracker.outstanding.set n (h.tracker.outstanding[n] - 1), opsOut := h.tracker.opsOut - 1 }
    ((∀ x, h.tracker.slot? n = some x → x.tag ≠ tag) → h.resultBack st e = back)
    ∧ ∀ x : Slot, h.tracker.slot? n = some x → x.tag = tag → x.req.kind ≠ .read → x.req.kind ≠ .copy →
      h.resultBack st e = back.modifySlot n fun y => { y with
        ended := y.ended + 1, done := y.done + (if e.result = .channelFailed then 0 else 1)
        corrected := y.corrected + (if e.result = .corrected then 1 else 0)
        tainted := y.tainted + (if e.result = .tainted then 1 else 0)
        channelFailed := y.channelFailed || decide (e.result = .channelFailed)
        failAddr := if fails then some (match y.failAddr with | none => lo x | some f => min f (lo x)) else y.failAddr }

/-- READ data is delivered (R106, R114, R137): the granule's bytes in the range go by posted writes, without a list one
to the host address, with a list one to each buffer they lie in, each buffer taking the next of the bytes. Request byte i
lies in the entry of the list for which the lengths up to it sum to at most i and with it to more, at the entry's address
plus the rest. That the buffers of one granule are written in list order is the model's choice (log entry 26). -/
def Obligations.ReadDataDelivered : Prop :=
  (∀ (h : HostSide) (st : Stride) (e : OpEnd) (n : SlotNo) (x : Slot),
    e.op.issuer = .slot n x.tag → h.tracker.slot? n = some x → x.req.kind = .read →
    x.hostAccess = false → x.aborted = false → e.result ≠ .channelFailed →
    let base := st.address e.op.bank e.op.row e.op.gran 0
    let lo := max x.req.a base
    let len := min (x.req.a + x.req.len) (base + 64) - lo
    let bytes := blockBytes e.data (lo - base) len
    let buffers := listSegments x.list (lo - x.req.a) len
    base ≤ lo → lo < base + 64 → base % 64 = 0 → 0 < len →
    (x.req.useList = false → h.port.inWindow (x.req.host + (lo - x.req.a)) len = true →
      (h.resultBack st e).out = h.out ++ [.write (x.req.host + (lo - x.req.a)) bytes])
    ∧ (x.req.useList = true → (x.list.map (·.len)).sum = x.req.len →
      (∀ p ∈ buffers, h.port.inWindow p.1 p.2 = true) →
      ∃ parts : List (List Byte), parts.map List.length = buffers.map Prod.snd ∧ parts.flatten = bytes
        ∧ (h.resultBack st e).out = h.out ++ List.zipWith (fun p b => .write p.1 b) buffers parts))
  ∧ ∀ (es : List ListEntry) (off len : Nat), off + len ≤ (es.map (·.len)).sum →
    let addresses := (listSegments es off len).flatMap fun p => (List.range p.2).map (p.1 + ·)
    let before := fun k => ((es.take k).map (·.len)).sum
    addresses.length = len ∧ (∀ p ∈ listSegments es off len, 0 < p.2)
    ∧ ∀ i k e, i < len → es[k]? = some e → before k ≤ off + i → off + i < before (k + 1) →
        addresses[i]? = some (e.host + (off + i - before k))

/-- The status of a completion (R121): the first of ABORTED, HOST_ACCESS, LIST_MISMATCH, CHANNEL_FAILED and TAINTED that
applies, else OK; and a slot whose work has ended is completed with it, handed over and freed (R140, R141). The FENCED slot
of its ring behind it is then released (R130): to ISSUING, or, where it reads a list, to LOADING_LIST with its list asked
for; a FENCED slot of another ring is not. The numbers of the list's
reads and their split are the model's (log entries 9, 10). -/
def Obligations.SlotCompletion : Prop :=
  ∀ (h : HostSide) (x : Slot), x.state = .awaiting → x.ended = x.issued →
    h.port.outstanding (Owner.ofSlot x.num) = false → (∀ id ring k, h.config ≠ .drainWait id ring k) →
    let status : Status := if x.aborted = true then .aborted else if x.hostAccess = true then .hostAccess
      else if x.listMismatch = true then .listMismatch else if x.channelFailed = true then .channelFailed
      else if x.tainted ≠ 0 then .tainted else .ok
    let handed := h.handOver { id := x.req.id, ring := x.ring, status := status, failAddr := x.failAddr.getD 0,
                               tainted := x.tainted, corrected := x.corrected, done := x.done, result := 0 }
    (h.tracker.slots = [x] → ∃ h', h' = h.settle ∧ h'.tracker = { h.tracker with slots := [] }
      ∧ h'.out = handed.out ∧ h'.engine = handed.engine ∧ h'.events = handed.events)
    ∧ ∀ y : Slot, h.tracker.slots = [x, y] → y.num ≠ x.num → y.state = .fenced →
      let left := fun (state : SlotState) => h.settle.tracker = { h.tracker with slots := [{ y with state := state }] }
        ∧ h.settle.engine = handed.engine ∧ h.settle.events = handed.events
      (y.ring ≠ x.ring → left .fenced ∧ h.settle.out = handed.out)
      ∧ (y.ring = x.ring → y.req.kind ≠ .write → (y.req.useList = false ∨ y.req.kind ≠ .read) →
          left .issuing ∧ h.settle.out = handed.out)
      ∧ (y.ring = x.ring → y.req.kind = .read ∨ y.req.kind = .write → y.req.useList = true →
          h.port.sent.length + y.listReads.length ≤ 128 → (∀ z ∈ y.listReads, h.port.inWindow z.2.1 z.2.2 = true) →
          left .loadingList ∧ h.settle.out
            = handed.out ++ (y.listReads.mapIdx fun j z => .read (h.port.nextRead + j) z.2.1 z.2.2))

/-! ## Granule operations (chapters 2 and 4) -/

/-- READ and CHECK of a tracker slot, no target below the cursor (R18, R21, R22, R27, R32). The granule is what was last
written, or a free value if nothing was (log entry 4). CLEAN leaves it; CORRECTED writes a VALID one back; UNCORRECTABLE
marks it TAINTED; a TAINTED one yields zeros and TAINTED. One report goes out unless CLEAN. No other granule changes; the
result goes to the slot, with the 64 bytes for a READ; the bank takes its next operation. -/
def Obligations.ReadAndCheck : Prop :=
  ∀ (s : State) (b : BankNo) (ip : InProgress) (outcome source : ReadOutcome) (n : SlotNo) (tag : SlotTag) (c : Instr),
    (s.pool.bank b).cur = some ip → ip.op.issuer = .slot n tag → ip.targetKey? = none →
    s.host.tracker.noneHeldFor b →
    (c = .readOperation b outcome source ∧ ip.op.kind = .read
      ∨ c = .checkOperation b outcome source ∧ ip.op.kind = .check) →
    let k := granKey ip.op.bank ip.op.row ip.source ip.op.gran
    let g := (s.pool.mem.read k).getD (Config.undefinedGranule s.pool.freeCount)
    let result : OpResult := if outcome = .uncorrectable ∨ g = .tainted then .tainted
      else if outcome = .corrected then .corrected else .ok
    let found : Block := match g with | .valid d => if outcome = .uncorrectable then 0 else d | .tainted => 0
    ∃ t, exec c s = .next t
      ∧ (∀ a, t.pool.mem.read a = if a = k ∧ outcome = .uncorrectable then some .tainted
          else if a = k ∧ outcome = .corrected ∧ g ≠ .tainted then some g else s.pool.mem.read a)
      ∧ t.pool.reports = s.pool.reports ++ (match outcome with
          | .clean => []
          | .corrected => [{ bank := b, row := ip.op.row, outcome := .corrected }]
          | .uncorrectable => [{ bank := b, row := ip.op.row, outcome := .uncorrectable }])
      ∧ t.pool.bank b = ((s.pool.clearCur b).takeNext b).bank b ∧ s.pool.keptBut t.pool b
      ∧ t.host = (s.host.resultBack s.pool.control.stride
          { op := ip.op, result := result, data := if ip.op.kind = .read then found else 0 }).settle
      ∧ t.pending = s.pending

/-- READ and CHECK below the cursor of the row's migration (R69, R71, R73): the target is read, and its outcome decides as
the source's would; UNCORRECTABLE at the target is a target failure, the operation then reads the source and completes by
that outcome alone, and the target granule is left. A tracker slot is given the result of the copy that was read, with its
bytes for a READ. That the events of a migration which fails by it reach the event unit before the result reaches the slot
is the model's (log entry 23). -/
def Obligations.ReadsBelowCursor : Prop :=
  ∀ (s : State) (b : BankNo) (ip : InProgress) (outcome source : ReadOutcome) (k : Nat) (c : Instr),
    (s.pool.bank b).cur = some ip → ip.targetKey? = some k →
    (c = .readOperation b outcome source ∧ ip.op.kind = .read
      ∨ c = .checkOperation b outcome source ∧ ip.op.kind = .check) →
    let sk := granKey ip.op.bank ip.op.row ip.source ip.op.gran
    let g := (s.pool.mem.read k).getD (Config.undefinedGranule s.pool.freeCount)
    let gs := (s.pool.mem.read sk).getD (Config.undefinedGranule (s.pool.freeCount + 1))
    let reports := fun o : ReadOutcome => (reportOf o).toList.map fun e =>
      ({ bank := b, row := ip.op.row, outcome := e } : Report)
    let gives := fun (o : ReadOutcome) (found : Granule) => ({
      op := ip.op
      result := if o = .uncorrectable ∨ found = .tainted then .tainted else if o = .corrected then .corrected else .ok
      data := if ip.op.kind = .read ∧ o ≠ .uncorrectable then (match found with | .valid d => d | .tainted => 0)
        else 0 } : OpEnd)
    let ofSlot := (∃ n tag, ip.op.issuer = .slot n tag) ∧ s.host.tracker.noneHeldFor b
    (∃ t m, ip.mig = some (t, m) ∧ ip.op.gran.val < m ∧ k = granKey ip.op.bank ip.op.row (some t) ip.op.gran)
    ∧ (outcome ≠ .uncorrectable → ∃ t, exec c s = .next t
        ∧ (∀ a, t.pool.mem.read a =
            if a = k ∧ outcome = .corrected ∧ g ≠ .tainted then some g else s.pool.mem.read a)
        ∧ t.pool.reports = s.pool.reports ++ reports outcome
        ∧ (ofSlot → t.host = (s.host.resultBack s.pool.control.stride (gives outcome g)).settle))
    ∧ (outcome = .uncorrectable → ∃ t, exec c s = .next t
        ∧ (∀ a, t.pool.mem.read a = if a = sk ∧ source = .uncorrectable then some .tainted
            else if a = sk ∧ source = .corrected ∧ gs ≠ .tainted then some gs else s.pool.mem.read a)
        ∧ t.pool.reports = s.pool.reports ++ reports source
        ∧ (ofSlot → ∃ es : List Event, (∀ e ∈ es, ∃ reason, e = .migrationFailed b ip.op.row reason)
            ∧ t.host = ((s.host.raiseAll es).resultBack s.pool.control.stride (gives source gs)).settle))

/-- MERGE of a tracker slot (R24, R72): a VALID granule takes the carried words of the mask and keeps the others, at the
source alone or, read below the cursor, at target and source both; lost data marks the granule read, a TAINTED granule
stays. A mask with no flag set writes what a CHECK writes. Below the cursor UNCORRECTABLE at the target is a target failure
(R73): the target is left, and the MERGE reads the source, writes it alone and completes by that outcome alone; the events
of a migration which fails by it first, the model's order (log entry 23). -/
def Obligations.MergeOperation : Prop :=
  (∀ (s : State) (b : BankNo) (ip : InProgress) (outcome source : ReadOutcome) (n : SlotNo) (tag : SlotTag)
    (mask : BitVec 8) (new : Block),
    (s.pool.bank b).cur = some ip → ip.op.issuer = .slot n tag → ip.op.kind = .merge mask new →
    s.host.tracker.noneHeldFor b → (ip.targetKey? = none ∨ outcome ≠ .uncorrectable) →
    let sk := granKey ip.op.bank ip.op.row ip.source ip.op.gran
    let k := ip.targetKey?.getD sk
    let g := (s.pool.mem.read k).getD (Config.undefinedGranule s.pool.freeCount)
    let result : OpResult := if outcome = .uncorrectable ∨ g = .tainted then .tainted
      else if outcome = .corrected then .corrected else .ok
    ∃ t, exec (.mergeOperation b outcome source) s = .next t
      ∧ (outcome = .uncorrectable → ∀ a, t.pool.mem.read a = if a = k then some .tainted else s.pool.mem.read a)
      ∧ (outcome ≠ .uncorrectable → g = .tainted → ∀ a, t.pool.mem.read a = s.pool.mem.read a)
      ∧ (∀ old, outcome ≠ .uncorrectable → g = .valid old → mask ≠ 0 → ∃ d : Block,
          (∀ a, t.pool.mem.read a = if a = k ∨ a = sk then some (.valid d) else s.pool.mem.read a)
          ∧ ∀ w, w < 8 → blockWord d w = if mask.getLsbD w then blockWord new w else blockWord old w)
      ∧ (∀ old, outcome ≠ .uncorrectable → g = .valid old → mask = 0 → ∀ a, t.pool.mem.read a =
          if a = k ∧ outcome = .corrected then some (.valid old) else s.pool.mem.read a)
      ∧ t.pool.reports = s.pool.reports ++ (reportOf outcome).toList.map
          (fun e => ({ bank := b, row := ip.op.row, outcome := e } : Report))
      ∧ t.pool.bank b = ((s.pool.clearCur b).takeNext b).bank b ∧ s.pool.keptBut t.pool b
      ∧ t.host = (s.host.resultBack s.pool.control.stride { op := ip.op, result := result, data := 0 }).settle
      ∧ t.pending = s.pending)
  ∧ ∀ (s : State) (b : BankNo) (ip : InProgress) (source : ReadOutcome) (n : SlotNo) (tag : SlotTag)
    (mask : BitVec 8) (new : Block) (k : Nat),
    (s.pool.bank b).cur = some ip → ip.op.issuer = .slot n tag → ip.op.kind = .merge mask new →
    s.host.tracker.noneHeldFor b → ip.targetKey? = some k →
    let sk := granKey ip.op.bank ip.op.row ip.source ip.op.gran
    let g := (s.pool.mem.read sk).getD (Config.undefinedGranule (s.pool.freeCount + 1))
    let result : OpResult := if source = .uncorrectable ∨ g = .tainted then .tainted
      else if source = .corrected then .corrected else .ok
    ∃ (t : State) (es : List Event), exec (.mergeOperation b .uncorrectable source) s = .next t
      ∧ (source = .uncorrectable → ∀ a, t.pool.mem.read a = if a = sk then some .tainted else s.pool.mem.read a)
      ∧ (source ≠ .uncorrectable → g = .tainted → ∀ a, t.pool.mem.read a = s.pool.mem.read a)
      ∧ (∀ old, source ≠ .uncorrectable → g = .valid old → mask ≠ 0 → ∃ d : Block,
          (∀ a, t.pool.mem.read a = if a = sk then some (.valid d) else s.pool.mem.read a)
          ∧ ∀ w, w < 8 → blockWord d w = if mask.getLsbD w then blockWord new w else blockWord old w)
      ∧ (∀ old, source ≠ .uncorrectable → g = .valid old → mask = 0 → ∀ a, t.pool.mem.read a =
          if a = sk ∧ source = .corrected then some (.valid old) else s.pool.mem.read a)
      ∧ t.pool.reports = s.pool.reports ++ (reportOf source).toList.map
          (fun e => ({ bank := b, row := ip.op.row, outcome := e } : Report))
      ∧ (∀ e ∈ es, ∃ reason, e = .migrationFailed b ip.op.row reason)
      ∧ t.host = ((s.host.raiseAll es).resultBack s.pool.control.stride
          { op := ip.op, result := result, data := 0 }).settle
      ∧ t.pending = s.pending

/-- WRITE and MARK of a tracker slot (R23, R25, R70): the granule takes the data with VALID, or TAINTED, whatever it held,
at the source and, below the cursor, at the target too; the result is OK; nothing is read or reported.
Where all general places of the bank were taken, the freed one goes to the held operation of the slot earliest in the intake
order of those that wait for the bank, and no other waiting slot is admitted (R134); here for a VERIFY that goes on, and a
result whose slot is FREE by then. That the bank has taken its next operation before the held one arrives is the model's
order (log entry 7). -/
def Obligations.WriteAndMark : Prop :=
  (∀ (s : State) (b : BankNo) (ip : InProgress) (n : SlotNo) (tag : SlotTag) (c : Instr) (g : Granule),
    (s.pool.bank b).cur = some ip → ip.op.issuer = .slot n tag → s.host.tracker.noneHeldFor b →
    ((∃ d, c = .writeOperation b ∧ ip.op.kind = .write d ∧ g = .valid d)
      ∨ c = .markOperation b ∧ ip.op.kind = .mark ∧ g = .tainted) →
    ∃ t, exec c s = .next t
      ∧ (∀ a, t.pool.mem.read a =
          if a = granKey ip.op.bank ip.op.row ip.source ip.op.gran ∨ ip.targetKey? = some a then some g
          else s.pool.mem.read a)
      ∧ t.pool.reports = s.pool.reports
      ∧ t.pool.bank b = ((s.pool.clearCur b).takeNext b).bank b ∧ s.pool.keptBut t.pool b
      ∧ t.host = (s.host.resultBack s.pool.control.stride { op := ip.op, result := .ok, data := 0 }).settle
      ∧ t.pending = s.pending)
  ∧ ∀ (s : State) (b : BankNo) (ip : InProgress) (n : SlotNo) (tag : SlotTag) (c : Instr) (older younger : List Slot)
    (x : Slot) (o : BankOp) (k : Nat),
    (s.pool.bank b).cur = some ip → ip.op.issuer = .slot n tag →
    ((∃ d, c = .writeOperation b ∧ ip.op.kind = .write d) ∨ c = .markOperation b ∧ ip.op.kind = .mark) →
    (s.pool.bank b).generalCount = 30 → s.pool.channels[bankChannel b] = .active → s.host.tracker.safe →
    s.host.quiescent → (∀ y ∈ s.host.tracker.slots, y.num ≠ n) → s.host.tracker.slots = older ++ x :: younger →
    (∀ y ∈ older, ∀ p, y.held = some p → p.bank ≠ b) → x.held = some o → o.bank = b → o.issuer = .slot x.num x.tag →
    x.state = .issuing → x.req.kind = .verify → x.next = some k → k + 1 < x.req.count →
    let q := ((s.pool.clearCur b).takeNext b).bank b
    let counted := s.host.tracker.outstanding.set x.num (s.host.tracker.outstanding[x.num] + 1)
    ∃ t, exec c s = .next t
      ∧ t.pool.bank b = { q with waiting := q.waiting ++ [o] } ∧ s.pool.keptBut t.pool b
      ∧ t.host = s.host.setTracker { s.host.tracker with
          slots := older ++ { x with
            held := none, issued := x.issued + 1, next := some (k + 1)
            staging := x.staging.filter fun z => z.gran != k } :: younger
          outstanding := counted.set n (counted[n] - 1) }
      ∧ t.pending = s.pending

/-- A bank with nothing in progress takes next the oldest waiting operation of its open row, else the oldest, and is
WORKING on it with its row open and what the row map and the migration record show at that moment; with none waiting it
is IDLE, or CLOSED without open row and record in a FAILED channel (R26, R29, R31, R37, R69). That the
open row goes only when the bank is CLOSED is the model's (log entry 28). -/
def Obligations.BankTakesNext : Prop :=
  ∀ (p : PoolSide) (b : BankNo), (p.bank b).cur = none →
    let x := p.bank b
    let takes := fun (o : BankOp) (rest : List BankOp) => p.setBank b
      { x with state := .working, waiting := rest, openRow := some o.row, retry := 0
               cur := some { op := o, source := p.lookup b o.row
                             mig := x.record.bind fun m => if m.row = o.row then some (m.target, m.cursor) else none } }
    (∀ older o younger, x.waiting = older ++ o :: younger → x.openRow = some o.row →
        (∀ y ∈ older, x.openRow ≠ some y.row) → p.takeNext b = takes o (older ++ younger))
    ∧ (∀ o younger, x.waiting = o :: younger → (∀ y ∈ x.waiting, x.openRow ≠ some y.row) →
        p.takeNext b = takes o younger)
    ∧ (x.waiting = [] → p.channels[bankChannel b] = .active → p.takeNext b = p.setBank b { x with state := .idle })
    ∧ (x.waiting = [] → p.channels[bankChannel b] = .failed →
        p.takeNext b = p.setBank b { x with state := .closed, openRow := none, record := none })

/-- A STEP copies the granule at the cursor read at its taking (R65, R66): lost or TAINTED data arrives at the target as
TAINTED, other data as VALID; CORRECTED data is also written back and lost data marked at the source; one report of the
source read goes out unless it was CLEAN, none of the verify read; no other granule changes, whatever the verify read
meets (R67). -/
def Obligations.StepCopies : Prop :=
  ∀ (s : State) (b : BankNo) (ip : InProgress) (target : SpareNo) (c : GranNo) (source verify : ReadOutcome),
    (s.pool.bank b).cur = some ip → ip.op.kind = .step → ip.mig = some (target, c.val) → ip.source ≠ some target →
    let sk := granKey ip.op.bank ip.op.row ip.source c
    let tk := granKey ip.op.bank ip.op.row (some target) c
    let g := (s.pool.mem.read sk).getD (Config.undefinedGranule s.pool.freeCount)
    ∃ t, exec (.stepOperation b source verify) s = .next t
      ∧ t.pool.mem.read tk = (if source = .uncorrectable then some .tainted else some g)
      ∧ t.pool.mem.read sk = (if source = .uncorrectable then some .tainted
          else if source = .corrected ∧ g ≠ .tainted then some g else s.pool.mem.read sk)
      ∧ (∀ a, a ≠ tk → a ≠ sk → t.pool.mem.read a = s.pool.mem.read a)
      ∧ t.pool.reports = s.pool.reports ++ (reportOf source).toList.map
          (fun e => ({ bank := b, row := ip.op.row, outcome := e } : Report))
      ∧ t.pool.control = s.pool.control ∧ t.pool.channels = s.pool.channels ∧ t.pool.scrub = s.pool.scrub
      ∧ t.pool.signals = s.pool.signals ∧ (∀ i, i ≠ b → t.pool.bank i = s.pool.bank i) ∧ t.pending = s.pending

/-- The migration controller's act at a STEP that verified CLEAN (R47, R61, R67, R68, R77). Below the last granule, in an
ACTIVE channel, slot and record advance together and the next STEP is placed; at the last granule the target becomes
ACTIVE, a spare source RETIRED, slot and record go, the row's health entry goes, and MIGRATION_DONE is raised. -/
def Obligations.StepAdvances : Prop :=
  ∀ (s : State) (b : BankNo) (ip : InProgress) (target : SpareNo) (c : Nat) (source : ReadOutcome) (i : Fin 4)
    (m : MigSlot),
    (s.pool.bank b).cur = some ip → ip.op.kind = .step → ip.mig = some (target, c) →
    s.pool.migration.slotOf? b = some (i, m) → s.host.tracker.noneHeldFor b → s.host.quiescent →
    (m.cursor + 1 < 32 → s.pool.channels[bankChannel b] = .active → (s.pool.bank b).waiting = [] →
      ∃ t, exec (.stepOperation b source .clean) s = .next t
        ∧ t.pool.migration = { s.pool.migration with
            slots := s.pool.migration.slots.set i (some { m with cursor := m.cursor + 1 }) }
        ∧ t.pool.bank b = { state := .working, waiting := [], openRow := some m.row, retry := 0,
                            cur := some { op := stepOp b m.row, source := s.pool.lookup b m.row,
                                          mig := some (m.target, m.cursor + 1) },
                            record := some { row := m.row, source := m.source, target := m.target,
                                             cursor := m.cursor + 1 } }
        ∧ t.pool.spares = s.pool.spares ∧ t.pool.health = s.pool.health ∧ t.host = s.host)
    ∧ (32 ≤ m.cursor + 1 → m.source ≠ some m.target →
      ∃ t, exec (.stepOperation b source .clean) s = .next t
        ∧ t.pool.spare b m.target = .active m.row ∧ (∀ x, m.source = some x → t.pool.spare b x = .retired)
        ∧ (∀ x, x ≠ m.target → m.source ≠ some x → t.pool.spare b x = s.pool.spare b x)
        ∧ (∀ j x, j ≠ b → t.pool.spare j x = s.pool.spare j x)
        ∧ t.pool.migration.slots = s.pool.migration.slots.set i none ∧ (t.pool.bank b).record = none
        ∧ (∀ e ∈ t.pool.health.table, ¬(e.bank = b ∧ e.row = m.row))
        ∧ t.host = s.host.raise (.migrationDone b m.row m.target))

/-- Target failures (R48, R73, R75, R76, R79). At a STEP in an ACTIVE channel the target is RETIRED and the migration
restarts at cursor 0 on the lowest FREE spare with one attempt more, or fails with TARGET_LIMIT after attempt 3 or with
NO_SPARE, its slot and record gone; in a FAILED channel it is abandoned and the target is FREE. At a host READ of the row
the same failure also makes the waiting STEP void. -/
def Obligations.TargetFailures : Prop :=
  ∀ (s : State) (b : BankNo) (ip : InProgress) (i : Fin 4) (m : MigSlot) (source verify : ReadOutcome),
    (s.pool.bank b).cur = some ip → s.pool.migration.slotOf? b = some (i, m) →
    s.host.tracker.noneHeldFor b → s.host.quiescent → s.pool.spare b m.target = .target m.row → verify ≠ .clean →
    let c : Instr := .stepOperation b source verify
    let active := s.pool.channels[bankChannel b] = .active
    let gone := fun (t : State) (reason : MigReason) => t.pool.migration.slots = s.pool.migration.slots.set i none
      ∧ (t.pool.bank b).record = none ∧ t.host = s.host.raise (.migrationFailed b m.row reason)
    ((∃ target g, ip.op.kind = .step ∧ ip.mig = some (target, g)) →
      (active → m.attempt < 3 → ∀ x, s.pool.spare b x = .free → (∀ y, y < x → s.pool.spare b y ≠ .free) →
        ∃ t, exec c s = .next t ∧ t.pool.spare b m.target = .retired ∧ t.pool.spare b x = .target m.row
          ∧ t.pool.migration = { s.pool.migration with
              slots := s.pool.migration.slots.set i (some { m with target := x, cursor := 0, attempt := m.attempt + 1 }) }
          ∧ (t.pool.bank b).record = some { row := m.row, source := m.source, target := x, cursor := 0 }
          ∧ t.host = s.host)
      ∧ (active → 3 ≤ m.attempt →
        ∃ t, exec c s = .next t ∧ t.pool.spare b m.target = .retired ∧ gone t .targetLimit)
      ∧ (active → m.attempt < 3 → (∀ x, s.pool.spare b x ≠ .free) →
        ∃ t, exec c s = .next t ∧ t.pool.spare b m.target = .retired ∧ gone t .noSpare)
      ∧ (s.pool.channels[bankChannel b] = .failed → (s.pool.bank b).waiting = [] →
        ∃ t, exec c s = .next t ∧ t.pool.spare b m.target = .free ∧ gone t .channelFailed))
    ∧ (∀ n tag k, ip.op.kind = .read → ip.op.issuer = .slot n tag → ip.targetKey? = some k → ip.op.row = m.row →
        active → 3 ≤ m.attempt →
        ∃ t, exec (.readOperation b .uncorrectable source) s = .next t ∧ t.pool.spare b m.target = .retired
          ∧ t.pool.migration.slots = s.pool.migration.slots.set i none ∧ (t.pool.bank b).record = none
          ∧ (∀ o ∈ (t.pool.bank b).waiting, o.kind ≠ .step)
          ∧ ∀ q, (t.pool.bank b).cur = some q → q.op.kind ≠ .step)

/-! ## Command errors and channel failure (chapter 2) -/

/-- COMMAND_ERROR at an operation in progress. With a retry count below 8 in an ACTIVE channel only the retry count and
the bank state change (R31, R35). In a FAILED channel a tracker operation ends with CHANNEL_FAILED and no effect (R37).
At retry count 8 the channel becomes FAILED (R36, R37, R39): no granule changes, no report is sent, the four signals go
out, each bank of the channel is CLOSED or keeps only an operation on its first attempt, no other bank changes; with no
other operation in the channel, CHANNEL_FAILED is raised and the operation's result is CHANNEL_FAILED. The model's are
the fourth signal, to the tracker (log entry 5), the event before the result (log entry 23), the retry count 0 after a
CHANNEL_FAILED (log entry 27) and that a bank which carries on keeps its open row (log entry 28). -/
def Obligations.CommandErrors : Prop :=
  ∀ (s : State) (b : BankNo) (ip : InProgress) (n : SlotNo) (tag : SlotTag), (s.pool.bank b).cur = some ip →
    let x := s.pool.bank b
    let ch := bankChannel b
    let none_ := ∀ y ∈ s.host.tracker.slots, ∀ o, y.held = some o → bankChannel o.bank ≠ ch
    let e : OpEnd := { op := ip.op, result := .channelFailed, data := 0 }
    let st := s.pool.control.stride
    (s.pool.channels[ch] = .active → x.retry < 8 → exec (.commandError b) s =
        .next (s.setPool (s.pool.setBank b { x with state := .retrying, retry := x.retry + 1 })))
    ∧ (s.pool.channels[ch] = .failed → ip.op.issuer = .slot n tag → none_ →
        exec (.commandError b) s = .next ((s.setPool ((s.pool.clearCur b).takeNext b)).setHost
          (s.host.resultBack st e).settle))
    ∧ (s.pool.channels[ch] = .active → 8 ≤ x.retry → s.pool.scrub.owed = false →
        ∃ t, exec (.commandError b) s = .next t ∧ t.pool.channels = s.pool.channels.set ch .failed
          ∧ t.pool.mem = s.pool.mem ∧ t.pool.reports = s.pool.reports
          ∧ t.pool.signals = s.pool.signals
              ++ [(.poolControl, ch), (.migrationController, ch), (.healthMonitor, ch), (.tracker, ch)]
          ∧ (∀ i, bankChannel i ≠ ch → t.pool.bank i = s.pool.bank i)
          ∧ (∀ i, bankChannel i = ch → i ≠ b → (s.pool.bank i).cur ≠ none → (s.pool.bank i).state ≠ .retrying →
              t.pool.bank i = { s.pool.bank i with waiting := [] })
          ∧ (∀ i, bankChannel i = ch → (i = b ∨ (s.pool.bank i).cur = none ∨ (s.pool.bank i).state = .retrying) →
              t.pool.bank i = { state := .closed, waiting := [], cur := none, openRow := none, record := none,
                                retry := 0 })
          ∧ (ip.op.issuer = .slot n tag → none_ → x.waiting = [] →
              (∀ i, bankChannel i = ch → i ≠ b → (s.pool.bank i).cur = none ∧ (s.pool.bank i).waiting = []) →
              t.host = ((s.host.raise (.channelFailed ch)).resultBack st e).settle ∧ t.pool.control = s.pool.control
                ∧ t.pool.spares = s.pool.spares ∧ t.pool.migration = s.pool.migration
                ∧ t.pool.health = s.pool.health ∧ t.pool.scrub = s.pool.scrub))

/-- CHANNEL_FAILURE_SIGNAL (R8, R15, R39, R79, R92, R134): a signal that was not sent changes nothing, and the tracker's
own signal, are the model's choice (log entries 1, 5). Pool control: ONLINE becomes DEGRADED, other states but
FORMATTING stay, and in FORMATTING the 16 banks are marked done. Migration controller: the channel's candidates leave
the queue, the others in order, and room is signalled even if none left, so that a CANDIDATE entry of the channel whose
flag is clear is offered, refused and removed. Health monitor: the channel's entries leave the table, the others in
order. Tracker: an operation held for the channel is issued and ends with CHANNEL_FAILED. -/
def Obligations.FailureSignals : Prop :=
  ∀ (s : State) (ch : ChanNo),
    let after := fun target => s.setPool (s.pool.setSignals (s.pool.signals.erase (target, ch)))
    (∀ target, (target, ch) ∉ s.pool.signals → exec (.channelFailureSignal target ch) s = .next s)
    ∧ ((.poolControl, ch) ∈ s.pool.signals →
        (s.pool.control.state = .online → exec (.channelFailureSignal .poolControl ch) s =
          .next ((after .poolControl).setPool ((after .poolControl).pool.setControl
            { s.pool.control with state := .degraded })))
        ∧ (s.pool.control.state = .degraded ∨ s.pool.control.state = .offline →
          exec (.channelFailureSignal .poolControl ch) s = .next (after .poolControl))
        ∧ (∀ f, s.pool.control.state = .formatting → s.pool.control.cursor = some f →
          (∃ i, bankChannel i ≠ ch ∧ f.banks[i].done = false) →
          ∃ t g, exec (.channelFailureSignal .poolControl ch) s = .next t ∧ t.host = s.host
            ∧ t.pool.control = { s.pool.control with cursor := some g } ∧ g.turn = f.turn
            ∧ ∀ i : BankNo, g.banks[i] =
                if bankChannel i = ch then { f.banks[i] with done := true } else f.banks[i]))
    ∧ ((.migrationController, ch) ∈ s.pool.signals →
        (∀ e ∈ s.pool.health.table, e.state = .candidate → e.queued = true) →
        exec (.channelFailureSignal .migrationController ch) s =
          .next ((after .migrationController).setPool ((after .migrationController).pool.setMigration
            { s.pool.migration with queue := s.pool.migration.queue.filter fun y => bankChannel y.1 != ch })))
    ∧ ((.migrationController, ch) ∈ s.pool.signals → s.pool.channels[ch] = .failed →
        ∀ older e younger, s.pool.health.table = older ++ e :: younger → bankChannel e.bank = ch →
        e.state = .candidate → e.queued = false →
        (∀ f ∈ older ++ younger, (f.state = .candidate → f.queued = true) ∧ ¬(f.bank = e.bank ∧ f.row = e.row)) →
        exec (.channelFailureSignal .migrationController ch) s =
          .next ((after .migrationController).setPool (((after .migrationController).pool.setMigration
            { s.pool.migration with queue := s.pool.migration.queue.filter fun y => bankChannel y.1 != ch }).setHealth
            { s.pool.health with table := older ++ younger })))
    ∧ ((.healthMonitor, ch) ∈ s.pool.signals → exec (.channelFailureSignal .healthMonitor ch) s =
        .next ((after .healthMonitor).setPool ((after .healthMonitor).pool.setHealth
          { s.pool.health with table := s.pool.health.table.filter fun e => bankChannel e.bank != ch })))
    ∧ ((.tracker, ch) ∈ s.pool.signals → ∀ x o k, s.host.tracker.slots = [x] → x.held = some o →
        o.issuer = .slot x.num x.tag → bankChannel o.bank = ch → s.pool.channels[ch] = .failed →
        x.req.kind = .verify → x.state = .issuing → x.next = some k → k + 1 < x.req.count →
        (∀ id ring c, s.host.config ≠ .drainWait id ring c) →
        ∃ t y, exec (.channelFailureSignal .tracker ch) s = .next t ∧ t.pool = (after .tracker).pool
          ∧ t.host.tracker.slots = [y] ∧ y.held = none ∧ y.issued = x.issued + 1 ∧ y.ended = x.ended + 1
          ∧ y.next = some (k + 1) ∧ y.channelFailed = true ∧ y.state = .issuing)

/-! ## Health table, migration queue and starts (chapters 4 and 5) -/

/-- OUTCOME_REPORT: the oldest report of a bank is taken (R32). From a FAILED channel it is discarded (R85). A known row's
entry counts, saturating at 15, and a WATCH entry at the threshold, or with lost data, becomes CANDIDATE and is offered
unless queued (R86, R89). A new row joins as newest with count 1 (R87), in a full table in place of the oldest WATCH
entry of lowest count (R88); with no WATCH entry, HEALTH_TABLE_FULL is raised, and only lost data offers the row. -/
def Obligations.OutcomeReports : Prop :=
  ∀ (s : State) (b : BankNo) (older younger : List Report) (q : Report),
    s.pool.reports = older ++ q :: younger → q.bank = b → (∀ r ∈ older, r.bank ≠ b) →
    let p := s.pool.setReports (older ++ younger)
    let table := s.pool.health.table
    let threshold := s.pool.health.threshold
    let queue := s.pool.migration.queue
    let takes := fun (tbl : List HealthEntry) (q' : List (BankNo × RowNo)) =>
      exec (.outcomeReport b) s = .next (s.setPool ((p.setHealth { s.pool.health with table := tbl }).setMigration
        { s.pool.migration with queue := q' }))
    let offered := (b, q.row) ∉ queue
      ∧ ∀ (i : Fin 4) (m : MigSlot), s.pool.migration.slots[i] = some m → ¬(m.bank = b ∧ m.row = q.row)
    let e' := fun (state : HealthState) (queued : Bool) =>
      ({ bank := b, row := q.row, count := 1, state := state, firstPass := s.pool.scrub.pass, last := q.outcome,
         queued := queued } : HealthEntry)
    let known := ∃ e ∈ table, e.bank = b ∧ e.row = q.row
    (s.pool.channels[bankChannel b] = .failed → exec (.outcomeReport b) s = .next (s.setPool p))
    ∧ (s.pool.channels[bankChannel b] = .active →
      (∀ l e r, table = l ++ e :: r → e.bank = b → e.row = q.row →
        (∀ f ∈ l ++ r, ¬(f.bank = b ∧ f.row = q.row)) →
        let count := min 15 (e.count + 1)
        let crosses := e.state = .watch ∧ (q.outcome = .uncorrectable ∨ threshold ≤ count)
        (¬crosses → takes (l ++ { e with count := count, last := q.outcome } :: r) queue)
        ∧ (crosses → e.queued = true →
            takes (l ++ { e with count := count, last := q.outcome, state := .candidate } :: r) queue)
        ∧ (crosses → e.queued = false → offered → queue.length < 16 →
            takes (l ++ { e with count := count, last := q.outcome, state := .candidate, queued := true } :: r)
              (queue ++ [(b, q.row)]))
        ∧ (crosses → e.queued = false → offered → 16 ≤ queue.length →
            takes (l ++ { e with count := count, last := q.outcome, state := .candidate } :: r) queue))
      ∧ (¬known → table.length < 512 → offered →
        (q.outcome = .corrected → 1 < threshold → takes (table ++ [e' .watch false]) queue)
        ∧ (q.outcome = .uncorrectable ∨ threshold ≤ 1 → queue.length < 16 →
            takes (table ++ [e' .candidate true]) (queue ++ [(b, q.row)]))
        ∧ (q.outcome = .uncorrectable ∨ threshold ≤ 1 → 16 ≤ queue.length →
            takes (table ++ [e' .candidate false]) queue))
      ∧ (∀ l v r, ¬known → 512 ≤ table.length → table = l ++ v :: r → v.state = .watch →
        (∀ f ∈ l, f.state = .watch → v.count < f.count) → (∀ f ∈ r, f.state = .watch → v.count ≤ f.count) →
        (∀ f ∈ l ++ r, ¬(f.bank = v.bank ∧ f.row = v.row)) →
        offered → q.outcome = .corrected → 1 < threshold → takes (l ++ r ++ [e' .watch false]) queue)
      ∧ (¬known → 512 ≤ table.length → (∀ f ∈ table, f.state ≠ .watch) →
        (q.outcome = .corrected → exec (.outcomeReport b) s =
          .next ((s.setPool p).setHost (s.host.raise (.healthTableFull b q.row))))
        ∧ (q.outcome = .uncorrectable → offered → queue.length < 16 → exec (.outcomeReport b) s =
          .next ((s.setPool (p.setMigration { s.pool.migration with queue := queue ++ [(b, q.row)] })).setHost
            (s.host.raise (.healthTableFull b q.row))))))

/-- MIGRATE_ROW and HEALTH_CLEAR at the configuration unit that holds them (R58, R91, R96, R183). The checks of MIGRATE
ROW in order, the queue's own among them, each refusal leaving the pool side as it was; an accepted row joins the queue
as newest and its entry, unless MIGRATING, is CANDIDATE with its flag set. HEALTH CLEAR removes the WATCH and BLOCKED
entries and answers their number. -/
def Obligations.MigrateRowAndHealthClear : Prop :=
  ∀ (s : State) (id : BitVec 16),
    (∀ bank row, s.host.config = .executing id (.migrateRow bank row) none →
      let ends := fun st p => exec .migrateRow s = .next ((s.setPool p).setHost (s.host.completeCommand id st 0))
      (255 < bank ∨ 65535 < row → ends .badParameter s.pool)
      ∧ ∀ (b : BankNo) (r : RowNo), b.val = bank → r.val = row →
        let serving := s.pool.control.state = .online ∨ s.pool.control.state = .degraded
        let active := s.pool.channels[bankChannel b] = .active
        let pending := (b, r) ∈ s.pool.migration.queue
          ∨ ∃ (i : Fin 4) (m : MigSlot), s.pool.migration.slots[i] = some m ∧ m.bank = b ∧ m.row = r
        (¬serving → ends .wrongState s.pool)
        ∧ (serving → ¬active → ends .channelFailed s.pool)
        ∧ (serving → active → pending → ends .alreadyPending s.pool)
        ∧ (serving → active → ¬pending → 16 ≤ s.pool.migration.queue.length → ends .queueFull s.pool)
        ∧ (serving → active → ¬pending → s.pool.migration.queue.length < 16 → ends .ok
            ((s.pool.setMigration { s.pool.migration with queue := s.pool.migration.queue ++ [(b, r)] }).setHealth
              { s.pool.health with table := s.pool.health.table.map fun e =>
                  if e.bank = b ∧ e.row = r ∧ e.state ≠ .migrating
                  then { e with state := .candidate, queued := true } else e })))
    ∧ (s.host.config = .executing id .healthClear none → ∃ t, exec .healthClear s = .next t
        ∧ (∀ e, e ∈ t.pool.health.table ↔
            e ∈ s.pool.health.table ∧ (e.state = .candidate ∨ e.state = .migrating))
        ∧ t.pool.health.table.Sublist s.pool.health.table
        ∧ t.pool = s.pool.setHealth { s.pool.health with table := t.pool.health.table }
        ∧ t.host = s.host.completeCommand id .ok
            (s.pool.health.table.countP fun e => e.state == .watch || e.state == .blocked))

/-- MIGRATION_START (R62 to R64). Nothing starts unless a slot is FREE, the pool serves and a candidate's bank has no
slot. The oldest such candidate is taken: without a FREE spare it is dropped with NO_SPARE and its entry is BLOCKED; else
the lowest FREE spare becomes TARGET, the lowest FREE slot and the bank's record begin at cursor 0, attempt 1, the entry
is MIGRATING and the bank gets the first STEP. Here with no other CANDIDATE entry waiting for room. -/
def Obligations.MigrationStarts : Prop :=
  ∀ s : State,
    let m := s.pool.migration
    let serving := s.pool.control.state = .online ∨ s.pool.control.state = .degraded
    let busy := fun b : BankNo => ∃ (i : Fin 4) (x : MigSlot), m.slots[i] = some x ∧ x.bank = b
    (¬serving ∨ (∀ i : Fin 4, m.slots[i] ≠ none) ∨ (∀ c ∈ m.queue, busy c.1) → exec .migrationStart s = .next s)
    ∧ ∀ (i : Fin 4) older b r younger, serving → m.slots[i] = none → (∀ j : Fin 4, j < i → m.slots[j] ≠ none) →
      m.queue = older ++ (b, r) :: younger → (∀ c ∈ older, busy c.1) → ¬busy b →
      (∀ e ∈ s.pool.health.table, e.state = .candidate → e.queued = true) →
      let entries := fun st : HealthState => { s.pool.health with table := s.pool.health.table.map fun e =>
        if e.bank = b ∧ e.row = r then { e with state := st, queued := false } else e }
      ((∀ x, s.pool.spare b x ≠ .free) → exec .migrationStart s =
        .next ((s.setPool ((s.pool.setMigration { m with queue := older ++ younger }).setHealth
          (entries .blocked))).setHost (s.host.raise (.migrationFailed b r .noSpare))))
      ∧ ∀ x, s.pool.spare b x = .free → (∀ y, y < x → s.pool.spare b y ≠ .free) →
        s.pool.channels[bankChannel b] = .active → (s.pool.bank b).cur = none →
        ∃ t, exec .migrationStart s = .next t
          ∧ t.pool.migration.queue = older ++ younger
          ∧ t.pool.migration.slots = m.slots.set i
              (some { bank := b, row := r, source := s.pool.lookup b r, target := x, cursor := 0, attempt := 1 })
          ∧ t.pool.spare b x = .target r ∧ (∀ y, y ≠ x → t.pool.spare b y = s.pool.spare b y)
          ∧ (∀ j y, j ≠ b → t.pool.spare j y = s.pool.spare j y) ∧ (∀ j, j ≠ b → t.pool.bank j = s.pool.bank j)
          ∧ t.pool.bank b = { s.pool.bank b with
              state := .working, openRow := some r, retry := 0
              record := some { row := r, source := s.pool.lookup b r, target := x, cursor := 0 }
              cur := some { op := stepOp b r, source := s.pool.lookup b r, mig := some (x, 0) } }
          ∧ t.pool.health = entries .migrating ∧ t.pool.mem = s.pool.mem ∧ t.pool.control = s.pool.control
          ∧ t.host = s.host

/-! ## The patrol scrubber (chapter 5) -/

/-- SCRUB_TIMER_EXPIRY (R94, R98, R99, R101). A stopped timer does not expire, and the command then changes nothing (log
entry 1); with a row in progress the visit is owed. Else the position is visited and advances, bank first: a row of a
FAILED channel or in migration is passed over, any other becomes the row in progress with the CHECK of granule 0 at its
bank. Passing over the last position ends the pass: the pass number rises, WATCH counts fall by one and those at 0 go,
and SCRUB_PASS_DONE is raised. -/
def Obligations.ScrubVisits : Prop :=
  ∀ s : State,
    let c := s.pool.scrub
    let skip := s.pool.channels[bankChannel c.bank] = .failed
      ∨ ∃ (i : Fin 4) (m : MigSlot), s.pool.migration.slots[i] = some m ∧ m.bank = c.bank ∧ m.row = c.row
    let last := c.row.val = 65535 ∧ c.bank.val = 255
    (c.running = false → exec .scrubTimerExpiry s = .next s)
    ∧ (c.running = true → c.cur ≠ none →
        exec .scrubTimerExpiry s = .next (s.setPool (s.pool.setScrub { c with owed := true })))
    ∧ (c.running = true → c.cur = none → ∃ t, exec .scrubTimerExpiry s = .next t
        ∧ t.pool.scrub.bank.val = (c.bank.val + 1) % 256
        ∧ t.pool.scrub.row.val = (if c.bank.val = 255 then (c.row.val + 1) % 65536 else c.row.val)
        ∧ t.pool.scrub.interval = c.interval ∧ t.pool.scrub.running = true ∧ t.pool.scrub.owed = c.owed
        ∧ (skip → t.pool.banks = s.pool.banks ∧ t.pool.scrub.cur = none)
        ∧ (skip → ¬last → t.pool.scrub.pass = c.pass ∧ t.pool.health = s.pool.health ∧ t.host = s.host)
        ∧ (skip → last → t.pool.scrub.pass = c.pass + 1 ∧ t.host = s.host.raise (.scrubPassDone (c.pass + 1))
            ∧ t.pool.health.threshold = s.pool.health.threshold
            ∧ t.pool.health.table = s.pool.health.table.filterMap fun e =>
                if e.state = .watch then (if e.count ≤ 1 then none else some { e with count := e.count - 1 })
                else some e)
        ∧ (¬skip → t.pool.scrub.cur = some { bank := c.bank, row := c.row, next := 0 } ∧ t.pool.scrub.pass = c.pass
            ∧ t.pool.health = s.pool.health ∧ t.host = s.host
            ∧ (∀ j, j ≠ c.bank → t.pool.bank j = s.pool.bank j)
            ∧ ((s.pool.bank c.bank).cur = none → t.pool.bank c.bank = { s.pool.bank c.bank with
                  state := .working, openRow := some c.row, retry := 0
                  cur := some (s.pool.takeOp c.bank (scrubOp c.bank c.row 0)) })
            ∧ ((s.pool.bank c.bank).cur ≠ none → t.pool.bank c.bank = { s.pool.bank c.bank with
                  waiting := (s.pool.bank c.bank).waiting ++ [scrubOp c.bank c.row 0] }))
        ∧ t.pool.migration = s.pool.migration ∧ t.pool.mem = s.pool.mem ∧ t.pool.control = s.pool.control)

/-- The end of a scrub CHECK (R98, R100 to R102), here at a bank with nothing waiting and a row with no target: TAINT_FOUND
is raised exactly when the read met UNCORRECTABLE; the CHECK of the next granule is placed, but after granule 31, in
FORMATTING, in a FAILED channel or with the row in migration, the row ends. With the row at the last position the pass ends
too: the pass number rises, WATCH counts fall by one and those at 0 go, and SCRUB_PASS_DONE is raised. Then an owed visit
is made at once: its position advances, and the row there becomes the row in progress or is passed over. -/
def Obligations.ScrubCheckEnds : Prop :=
  ∀ (s : State) (b : BankNo) (ip : InProgress) (c : ScrubRow) (outcome source : ReadOutcome),
    (s.pool.bank b).cur = some ip → (s.pool.bank b).waiting = [] → ip.op = scrubOp b c.row (Fin.ofNat 32 c.next) →
    ip.targetKey? = none → s.pool.scrub.cur = some c → c.bank = b → c.next < 32 → s.host.tracker.noneHeldFor b →
    s.host.quiescent →
    let p := s.pool.scrub
    let skips := fun (i : BankNo) (r : RowNo) => s.pool.channels[bankChannel i] = .failed
      ∨ ∃ (j : Fin 4) (m : MigSlot), s.pool.migration.slots[j] = some m ∧ m.bank = i ∧ m.row = r
    let stop := c.next = 31 ∨ s.pool.control.state = .formatting ∨ skips b c.row
    let last := c.row.val = 65535 ∧ b.val = 255
    let found := if outcome = .uncorrectable then s.host.raise (.taintFound b c.row (Fin.ofNat 32 c.next)) else s.host
    let pass := if last then p.pass + 1 else p.pass
    let table := if last then (s.pool.health.table.filterMap fun e =>
        if e.state = .watch then (if e.count ≤ 1 then none else some { e with count := e.count - 1 }) else some e)
      else s.pool.health.table
    let told := if last then found.raise (.scrubPassDone pass) else found
    (¬stop → ∃ t, exec (.checkOperation b outcome source) s = .next t
        ∧ t.pool.scrub = { p with cur := some { c with next := c.next + 1 } }
        ∧ (∃ q, (t.pool.bank b).cur = some q ∧ q.op = scrubOp b c.row (Fin.ofNat 32 (c.next + 1)))
        ∧ (∀ i, i ≠ b → t.pool.bank i = s.pool.bank i)
        ∧ t.host = found ∧ t.pool.health = s.pool.health)
    ∧ (stop → p.owed = false → ∃ t, exec (.checkOperation b outcome source) s = .next t
        ∧ t.pool.scrub = { p with cur := none, pass := pass } ∧ (t.pool.bank b).cur = none
        ∧ (∀ i, i ≠ b → t.pool.bank i = s.pool.bank i)
        ∧ t.host = told ∧ t.pool.health = { s.pool.health with table := table })
    ∧ (stop → p.owed = true → ∃ t, exec (.checkOperation b outcome source) s = .next t
        ∧ t.pool.scrub.bank.val = (p.bank.val + 1) % 256
        ∧ t.pool.scrub.row.val = (if p.bank.val = 255 then (p.row.val + 1) % 65536 else p.row.val)
        ∧ t.pool.scrub.interval = p.interval ∧ t.pool.scrub.running = p.running ∧ t.pool.scrub.owed = false
        ∧ (skips p.bank p.row → ¬(p.row.val = 65535 ∧ p.bank.val = 255) → t.pool.scrub.cur = none
            ∧ t.pool.scrub.pass = pass ∧ t.host = told ∧ t.pool.health = { s.pool.health with table := table })
        ∧ (¬skips p.bank p.row → t.pool.scrub.cur = some { bank := p.bank, row := p.row, next := 0 }
            ∧ t.pool.scrub.pass = pass ∧ t.host = told ∧ t.pool.health = { s.pool.health with table := table }
            ∧ (p.bank = b ∨ (s.pool.bank p.bank).cur = none →
                ∃ q, (t.pool.bank p.bank).cur = some q ∧ q.op = scrubOp p.bank p.row 0)
            ∧ (p.bank ≠ b → (s.pool.bank p.bank).cur ≠ none → t.pool.bank p.bank = { s.pool.bank p.bank with
                waiting := (s.pool.bank p.bank).waiting ++ [scrubOp p.bank p.row 0] })
            ∧ ∀ i, i ≠ b → i ≠ p.bank → t.pool.bank i = s.pool.bank i))

/-! ## POOL FORMAT (chapter 1) -/

/-- POOL_FORMAT at the configuration unit that holds it (R9, R10, R14, R102): a stride that is none of the four gives
BAD_PARAMETER; FORMATTING, an occupied slot, an operation of a data request at a bank or an occupied migration slot
gives WRONG_STATE; nothing else changes then. Accepted, stride and FORMATTING are set, the cursor has the banks of
FAILED channels done and the others at row 0, and the scrubber stops; with every channel FAILED the format ends at once;
the order of its event and the completion, which no rule fixes, is the model's (log entry 23). -/
def Obligations.PoolFormatBegins : Prop :=
  ∀ (s : State) (id : BitVec 16) (stride : Nat), s.host.config = .executing id (.poolFormat stride) none →
    let bad := stride ∉ [256, 512, 1024, 2048]
    let wrong := s.pool.control.state = .formatting ∨ s.host.tracker.slots ≠ [] ∨ s.host.tracker.opsOut ≠ 0
      ∨ ∃ i : Fin 4, s.pool.migration.slots[i] ≠ none
    let failed := fun b : BankNo => s.pool.channels[bankChannel b] = .failed
    (bad → exec .poolFormat s = .next (s.setHost (s.host.completeCommand id .badParameter 0)))
    ∧ (¬bad → wrong → exec .poolFormat s = .next (s.setHost (s.host.completeCommand id .wrongState 0)))
    ∧ (¬bad → ¬wrong → (∃ b, ¬failed b) → ∃ t f, exec .poolFormat s = .next t
        ∧ t.pool.control.state = .formatting ∧ t.pool.control.stride.bytes = stride
        ∧ t.pool.control.cursor = some f ∧ f.turn = 0
        ∧ (∀ b : BankNo, f.banks[b].row = 0 ∧ f.banks[b].issued = 0 ∧ f.banks[b].ended = 0
            ∧ (f.banks[b].done = true ↔ failed b))
        ∧ t.pool = (s.pool.setControl t.pool.control).setScrub { s.pool.scrub with running := false, owed := false }
        ∧ t.host = s.host.completeCommand id .ok 0)
    ∧ (¬bad → ¬wrong → (∀ b, failed b) → ∃ t, exec .poolFormat s = .next t
        ∧ t.pool.control.state = .degraded ∧ t.pool.control.stride.bytes = stride ∧ t.pool.control.cursor = none
        ∧ t.host = (s.host.raise (.formatDone .degraded)).completeCommand id .ok 0)

/-- FORMAT_TURN and the end of a format write (R12 to R14). Without a cursor no turn is taken, and the command changes
nothing (log entry 1). A turn advances the turn position; at a bank not done, with writes of its row to issue and a free
general place, the WRITE of zeros to the next granule is placed and counted. An ended write leaves its granule 64 zero
bytes and VALID and is counted; with the 32nd the next row begins, after row 65,535 the bank is done, and when every
bank is done the format ends in ONLINE, or DEGRADED with a channel FAILED, the cursor is discarded, the scrub timer runs
if the interval is not 0, and FORMAT_DONE is raised. -/
def Obligations.FormatWrites : Prop :=
  ∀ s : State,
    (s.pool.control.cursor = none → exec .formatTurn s = .next s)
    ∧ ∀ f : FormatCursor, s.pool.control.cursor = some f →
      let withCursor := fun g : FormatCursor => s.pool.setControl { s.pool.control with cursor := some g }
      (let b := f.turn
       let x := f.banks[b]
       let k := s.pool.bank b
       let due := x.done = false ∧ x.issued < 32 ∧ k.generalCount < 30
       let counted := withCursor { banks := f.banks.set b { x with issued := x.issued + 1 }, turn := b + 1 }
       let op : BankOp := { kind := .write 0, issuer := .format, bank := b, row := x.row, gran := Fin.ofNat 32 x.issued }
       (¬due → exec .formatTurn s = .next (s.setPool (withCursor { f with turn := b + 1 })))
       ∧ (due → s.pool.channels[bankChannel b] = .active → k.cur ≠ none → exec .formatTurn s =
           .next (s.setPool (counted.setBank b { k with waiting := k.waiting ++ [op] })))
       ∧ (due → s.pool.channels[bankChannel b] = .active → k.cur = none → exec .formatTurn s =
           .next (s.setPool (counted.setBank b { k with
             state := .working, openRow := some x.row, retry := 0, cur := some (s.pool.takeOp b op) }))))
      ∧ ∀ (b : BankNo) (ip : InProgress), (s.pool.bank b).cur = some ip → ip.op.issuer = .format → ip.op.bank = b →
        ip.op.kind = .write 0 → ip.mig = none → s.host.tracker.noneHeldFor b → s.host.quiescent →
        f.banks[b].done = false →
        let x := f.banks[b]
        let y : FormatBank := if x.ended + 1 < 32 then { x with ended := x.ended + 1 }
          else if x.row.val < 65535 then { row := x.row + 1, issued := 0, ended := 0, done := false }
          else { x with ended := x.ended + 1, done := true }
        ∃ t, exec (.writeOperation b) s = .next t
          ∧ (∀ a, t.pool.mem.read a =
              if a = granKey b ip.op.row ip.source ip.op.gran then some (.valid 0) else s.pool.mem.read a)
          ∧ t.pool.reports = s.pool.reports ∧ t.pool.health = s.pool.health ∧ t.pool.spares = s.pool.spares
          ∧ t.pool.bank b = ((s.pool.clearCur b).takeNext b).bank b ∧ t.pool.control.stride = s.pool.control.stride
          ∧ ((y.done = false ∨ ∃ i : BankNo, i ≠ b ∧ f.banks[i].done = false) → t.host = s.host
              ∧ t.pool.control = { s.pool.control with cursor := some { f with banks := f.banks.set b y } })
          ∧ (y.done = true → (∀ i : BankNo, i ≠ b → f.banks[i].done = true) →
              let final : PoolState := if ∃ c : ChanNo, s.pool.channels[c] = .failed then .degraded else .online
              t.pool.control.state = final ∧ t.pool.control.cursor = none
              ∧ t.pool.scrub = { s.pool.scrub with running := decide (1 ≤ s.pool.scrub.interval) }
              ∧ t.host = s.host.raise (.formatDone final))

/-! ## Configuration commands (chapters 3 and 9) -/

/-- QUEUE_CREATE at the configuration unit that holds it (R173, R174): the checks in order, each refusal leaving the rings
as they were, and the ring that an accepted command creates. -/
def Obligations.QueueCreation : Prop :=
  ∀ (s : State) (id : BitVec 16) (kind num size base : Nat) (byte16 byte17 : Byte),
    s.host.config = .executing id (.queueCreate kind num size base byte16 byte17) none →
    let ends := fun (h : HostSide) st => exec .queueCreate s = .next (s.setHost (h.completeCommand id st 0))
    (kind ∉ [1, 2] ∨ num < 1 ∨ 31 < num → ends s.host .badQueue)
    ∧ ∀ n : RingId, 0 < n → n.val = num → kind ∈ [1, 2] →
      let present := if kind = 1 then (s.host.rq n).state ≠ .absent else (s.host.cq n).state ≠ .absent
      let place := if kind = 1 then 64 else 32
      let badShape := size < 2 ∨ 4096 < size ∨ base % 64 ≠ 0
        ∨ ¬(s.host.port.windowLow.toNat ≤ base ∧ base + place * size - 1 ≤ s.host.port.windowHigh.toNat)
      (present → ends s.host .badQueue)
      ∧ (¬present → badShape → ends s.host .badParameter)
      ∧ (¬present → ¬badShape → kind = 1 →
        (byte17.toNat < 1 ∨ 8 < byte17.toNat ∨ byte16.toNat < 1 ∨ 31 < byte16.toNat → ends s.host .badParameter)
        ∧ ∀ c : RingId, c.val = byte16.toNat → 0 < c → 1 ≤ byte17.toNat → byte17.toNat ≤ 8 →
          ((s.host.cq c).state ≠ .active → ends s.host .badParameter)
          ∧ ((s.host.cq c).state = .active → ends
              ((s.host.setCq c { s.host.cq c with bound := (s.host.cq c).bound + 1 }).setRq n
                { state := .active, base := base, size := size, tail := 0, head := 0, cq := c, burst := byte17.toNat,
                  inFlight := false }) .ok))
      ∧ (¬present → ¬badShape → kind = 2 →
        (31 < byte16.toNat → ends s.host .badParameter)
        ∧ (byte16.toNat ≤ 31 → ends (s.host.setCq n
            { state := .active, base := base, size := size, head := 0, tail := 0, lap := true, unconsumed := 0,
              reserved := 0, bound := 0, vector := byte16.toNat, intEn := byte17.getLsbD 0, armed := true }) .ok))

/-- QUEUE_DELETE at the configuration unit that holds it (R142, R143, R175 to R177): the checks in order; a completion ring
becomes ABSENT; a request ring with nothing occupied or reserved becomes ABSENT at once, and with an occupied slot it is
DRAINING and the unit waits, the abort flag marking the slot and counting it; an aborted slot with no operation outstanding
completes ABORTED at that event, and the deletion with it. The drain ends when the last slot of the ring is freed, its completion handed over before, and no record of a fetch of the ring is left: the ring
becomes ABSENT, its completion ring's bound count falls by one, and the command completes OK with the number counted.
The fields of a removed ring that no rule gives a value are the model's (log entry 18). -/
def Obligations.QueueDeletion : Prop :=
  (∀ (s : State) (id : BitVec 16) (kind num : Nat) (abort : Bool),
    s.host.config = .executing id (.queueDelete kind num abort) none → s.host.quiescent →
    let ends := fun (h : HostSide) st => exec .queueDelete s = .next (s.setHost (h.completeCommand id st 0))
    (kind ∉ [1, 2] ∨ num < 1 ∨ 31 < num → ends s.host .badQueue)
    ∧ ∀ n : RingId, 0 < n → n.val = num →
      (kind = 2 → (s.host.cq n).state = .absent → ends s.host .badQueue)
      ∧ (kind = 2 → (s.host.cq n).state ≠ .absent → 0 < (s.host.cq n).bound → ends s.host .inUse)
      ∧ (kind = 2 → (s.host.cq n).state ≠ .absent → (s.host.cq n).bound = 0 → ends (s.host.setCq n Cq.absent) .ok)
      ∧ (kind = 1 → (s.host.rq n).state = .absent → ends s.host .badQueue)
      ∧ (kind = 1 → (s.host.rq n).state ≠ .absent → (∀ x ∈ s.host.tracker.slots, x.ring ≠ n) →
          (∀ f, s.host.engine.fetch = some f → f.ring ≠ n) →
          let q := s.host.cq (s.host.rq n).cq
          ends ((s.host.setCq (s.host.rq n).cq { q with bound := q.bound - 1 }).setRq n Rq.absent) .ok)
      ∧ (kind = 1 → (s.host.rq n).state ≠ .absent → abort = false → (∃ x ∈ s.host.tracker.slots, x.ring = n) →
          exec .queueDelete s = .next (s.setHost ((s.host.setRq n { s.host.rq n with state := .draining }).setConfig
            (.drainWait id n 0))))
      ∧ (∀ x : Slot, kind = 1 → (s.host.rq n).state ≠ .absent → abort = true → s.host.tracker.slots = [x] → x.ring = n →
          x.ended = x.issued → (∀ f, s.host.engine.fetch = some f → f.ring ≠ n) →
          let p := s.host.port
          let g := (s.host.setPort { p with
            sent := p.sent.map fun y => if y.read.owner.ofSlot x.num then { y with abandoned := true } else y
            waiting := p.waiting.filter fun y => !y.owner.ofSlot x.num }).setRq n { s.host.rq n with state := .draining }
          let h := (g.handOver { x.completion with status := .aborted }).setTracker { s.host.tracker with slots := [] }
          let q := h.cq (s.host.rq n).cq
          exec .queueDelete s = .next (s.setHost (((h.setCq (s.host.rq n).cq { q with bound := q.bound - 1 }).setRq n
            Rq.absent).completeCommand id .ok 1)))
      ∧ ∀ x : Slot, kind = 1 → (s.host.rq n).state ≠ .absent → abort = true → s.host.tracker.slots = [x] → x.ring = n →
          x.ended ≠ x.issued →
          ∃ t, exec .queueDelete s = .next t ∧ t.host.config = .drainWait id n 1
            ∧ t.host.tracker = { s.host.tracker with slots := [{ x with
                aborted := true, state := .awaiting, next := none, held := none, staging := []
                copy := { x.copy with kept := [], ready := [] } }] }
            ∧ t.host.engine = (s.host.setRq n { s.host.rq n with state := .draining }).engine
            ∧ (∀ y ∈ t.host.port.sent, y.read.owner.ofSlot x.num = true → y.abandoned = true)
            ∧ t.host.out = s.host.out ∧ t.host.events = s.host.events ∧ t.pool = s.pool)
  ∧ ∀ (h : HostSide) (id : BitVec 16) (n : RingId) (count : Nat), h.config = .drainWait id n count →
    let free := ∀ f, h.engine.fetch = some f → f.ring = n → f.recs = []
    let ends := fun g : HostSide =>
      let c := (g.rq n).cq
      (((g.setCq c { g.cq c with bound := (g.cq c).bound - 1 }).setRq n Rq.absent).completeCommand id .ok count)
    (∀ x : Slot, h.tracker.slots = [x] → x.ring = n → x.state = .awaiting → x.ended = x.issued →
      h.port.outstanding (Owner.ofSlot x.num) = false →
      let g := (h.handOver x.completion).setTracker { h.tracker with slots := [] }
      (free → h.settle = ends g) ∧ (¬free → h.settle = g))
    ∧ ((∀ x ∈ h.tracker.slots, x.state ≠ .completing ∧ (x.state = .awaiting → x.ended ≠ x.issued)) →
      ((∃ x ∈ h.tracker.slots, x.ring = n) ∨ ¬free → h.settle = h)
      ∧ ((∀ x ∈ h.tracker.slots, x.ring ≠ n) → free → h.settle = ends h))

/-- EVENT_QUEUE_SET and SET_PARAMETERS at the configuration unit that holds them (R93, R103, R178, R179): what each
refuses with BAD_PARAMETER, changing nothing; the event ring created or removed; the threshold, interval and enables
taken at one event, a lowered threshold making WATCH entries at or above it CANDIDATE. Here with no event pending, and
with the flags of the entries that cross already set, so that none is offered. The fields of the removed event ring that
no rule gives a value are the model's (log entry 18). -/
def Obligations.EventRingAndParameters : Prop :=
  ∀ (s : State) (id : BitVec 16),
    (∀ size base vector intEn, s.host.config = .executing id (.eventQueueSet size base vector intEn) none →
      let ends := fun (h : HostSide) st => exec .eventQueueSet s = .next (s.setHost (h.completeCommand id st 0))
      let fits := 2 ≤ size ∧ size ≤ 1024 ∧ base % 64 = 0 ∧ vector ≤ 31
        ∧ s.host.port.windowLow.toNat ≤ base ∧ base + 32 * size - 1 ≤ s.host.port.windowHigh.toNat
      (size ≠ 0 → ¬fits → ends s.host .badParameter)
      ∧ (size = 0 → ends (s.host.setEq EvRing.absent) .ok)
      ∧ (fits → s.host.events.entries = [] → ends (s.host.setEq
          { state := .active, base := base, size := size, head := 0, tail := 0, lap := true, unconsumed := 0,
            vector := vector, intEn := intEn, armed := true }) .ok))
    ∧ ∀ interval threshold enables,
      s.host.config = .executing id (.setParameters interval threshold enables) none →
      let serving := s.pool.control.state = .online ∨ s.pool.control.state = .degraded
      let c := s.pool.scrub
      let table := s.pool.health.table.map fun e => if e.state = .watch ∧ threshold ≤ e.count
        then { e with state := .candidate } else e
      let scrub : Scrub := if interval = c.interval then c
        else if interval = 0 then { c with interval := 0, running := false, owed := false }
        else { c with interval := interval, running := decide serving }
      (65535 < interval ∨ threshold < 1 ∨ 15 < threshold →
        exec .setParameters s = .next (s.setHost (s.host.completeCommand id .badParameter 0)))
      ∧ (interval ≤ 65535 → 1 ≤ threshold → threshold ≤ 15 →
        (∀ e ∈ s.pool.health.table, e.state = .watch → threshold ≤ e.count → e.queued = true) →
        exec .setParameters s = .next ((s.setPool ((s.pool.setHealth
            { table := if threshold < s.pool.health.threshold then table else s.pool.health.table,
              threshold := threshold }).setScrub scrub)).setHost
          ((s.host.setEvents { s.host.events with enables := enables }).completeCommand id .ok 0)))

/-- MAP_READ, HEALTH_READ and STATUS_READ at the configuration unit that holds them (R50, R51, R95, R184, R185): the
entries of the snapshot up to the capacity go to consecutive places, the completion carries the snapshot's length; a
first entry outside the window gives HOST_ACCESS and no write; the status block is 64 bytes and one write. The map snapshot
has an entry for each ACTIVE and each RETIRED spare, by bank and spare index rising; the health snapshot is the table in
its order. The entries and the block are laid out as 12.6 to 12.8 say. -/
def Obligations.SnapshotsAndStatus : Prop :=
  ∀ (s : State) (id : BitVec 16) (capacity host : Nat),
    let low := s.host.port.windowLow.toNat
    let high := s.host.port.windowHigh.toNat
    let reads := fun (cmd : ConfigCmd) (row : Instr) (snap : List (List Byte)) (place : Nat) =>
      s.host.config = .executing id cmd none →
      let w := min capacity snap.length
      (w = 0 ∨ low ≤ host ∧ host + place * w - 1 ≤ high → exec row s = .next (s.setHost
          ((s.host.setOut (s.host.out ++ (snap.take w).mapIdx fun i e => .write (host + place * i) e)).completeCommand
            id .ok snap.length)))
      ∧ (w ≠ 0 → ¬(low ≤ host ∧ host + place - 1 ≤ high) →
          exec row s = .next (s.setHost (s.host.completeCommand id .hostAccess 0)))
    let block := statusBlock s
    let migrations := (List.finRange 4).filterMap fun i => s.pool.migration.slots[i]
    let at_ := fun off n => bytesToNat ((block.drop off).take n)
    reads (.mapRead capacity host) .mapRead s.pool.mapSnapshot 8
    ∧ (∀ e, e ∈ s.pool.mapSnapshot ↔ ∃ (b : BankNo) (i : SpareNo),
        (∃ r, s.pool.spare b i = .active r
          ∧ e = natToBytes 2 b.val ++ natToBytes 1 i.val ++ natToBytes 1 1 ++ natToBytes 4 r.val)
        ∨ s.pool.spare b i = .retired
          ∧ e = natToBytes 2 b.val ++ natToBytes 1 i.val ++ natToBytes 1 2 ++ natToBytes 4 0)
    ∧ (s.pool.mapSnapshot.Pairwise fun d e => bytesToNat (d.take 2) * 32 + bytesToNat ((d.drop 2).take 1)
        < bytesToNat (e.take 2) * 32 + bytesToNat ((e.drop 2).take 1))
    ∧ reads (.healthRead capacity host) .healthRead (s.pool.health.table.map healthEntryBytes) 16
    ∧ (∀ e : HealthEntry,
        let h_ := fun off n => bytesToNat (((healthEntryBytes e).drop off).take n)
        (healthEntryBytes e).length = 16 ∧ h_ 0 2 = e.bank.val ∧ h_ 2 2 = e.row.val ∧ h_ 4 1 = e.count % 256
        ∧ h_ 5 1 = (match e.state with | .watch => 0 | .candidate => 1 | .migrating => 2 | .blocked => 3)
        ∧ h_ 6 1 = (match e.last with | .corrected => 1 | .uncorrectable => 2)
        ∧ h_ 7 1 = (if e.queued then 1 else 0) ∧ h_ 8 4 = e.firstPass.toNat ∧ h_ 12 4 = 0)
    ∧ (s.host.config = .executing id (.statusRead host) none →
        (low ≤ host ∧ host + 63 ≤ high → exec .statusRead s = .next (s.setHost
          ((s.host.setOut (s.host.out ++ [.write host block])).completeCommand id .ok 0)))
        ∧ (¬(low ≤ host ∧ host + 63 ≤ high) → exec .statusRead s =
          .next (s.setHost (s.host.completeCommand id .hostAccess 0))))
    ∧ block.length = 64 ∧ at_ 0 1 = s.pool.control.state.code
    ∧ (∀ c : ChanNo, (at_ 2 2).testBit c.val = true ↔ s.pool.channels[c] = .failed)
    ∧ at_ 4 4 = s.pool.control.stride.bytes ∧ at_ 8 2 = s.pool.scrub.row.val ∧ at_ 10 1 = s.pool.scrub.bank.val
    ∧ at_ 12 4 = s.pool.scrub.pass.toNat ∧ at_ 18 1 = (if s.host.events.overflow then 1 else 0)
    ∧ at_ 1 1 = migrations.length ∧ at_ 11 1 = 0 ∧ at_ 16 1 = s.pool.migration.queue.length % 256
    ∧ at_ 17 1 = s.host.events.entries.length % 256 ∧ at_ 19 1 = 0
    ∧ at_ 20 2 = s.pool.health.table.length % 65536 ∧ at_ 22 2 = ((List.finRange 256).map fun b : BankNo =>
        if s.pool.channels[bankChannel b] = .failed then 0
        else (List.finRange 32).countP fun i => s.pool.spare b i == .free).sum
    ∧ (∀ i m, migrations[i]? = some m →
        at_ (24 + 8 * i) 2 = m.bank.val ∧ at_ (26 + 8 * i) 2 = m.row.val ∧ at_ (28 + 8 * i) 1 = m.cursor % 256
        ∧ at_ (29 + 8 * i) 1 = m.attempt % 256 ∧ at_ (30 + 8 * i) 1 = m.target.val ∧ at_ (31 + 8 * i) 1 = 0)
    ∧ (∀ i, migrations.length ≤ i → i < 4 → at_ (24 + 8 * i) 8 = 0) ∧ at_ 56 8 = 0

/-- MAP_LOAD at the configuration unit that holds it, and the arrival of its image as one answer (R52 to R54): refused
outside OFFLINE or above 8,192 entries; an empty image frees every spare; an image with an invalid entry changes nothing
and answers the index of the first; a valid one leaves exactly its spares ACTIVE or RETIRED and the others FREE. The reads of an image
cover its 8 bytes an entry from the host address on; their numbers and their split are the model's (log entries 9, 10). -/
def Obligations.MapLoading : Prop :=
  ∀ (s : State) (id : BitVec 16) (n host : Nat),
    (s.host.config = .executing id (.mapLoad n host) none →
      (s.pool.control.state ≠ .offline → exec .mapLoad s =
        .next (s.setHost (s.host.completeCommand id .wrongState 0)))
      ∧ (s.pool.control.state = .offline → 8192 < n → exec .mapLoad s =
        .next (s.setHost (s.host.completeCommand id .badParameter 0)))
      ∧ (s.pool.control.state = .offline → n = 0 → ∃ t, exec .mapLoad s = .next t
          ∧ t.pool = s.pool.setSpares t.pool.spares ∧ (∀ b i, t.pool.spare b i = .free)
          ∧ t.host = s.host.completeCommand id .ok 0)
      ∧ (s.pool.control.state = .offline → 0 < n → n ≤ 8192 →
          s.host.port.windowLow.toNat ≤ host → host + 8 * n - 1 ≤ s.host.port.windowHigh.toNat →
          let reads := (imageReads n host).mapIdx fun j z =>
            ({ id := s.host.port.nextRead + j, owner := z.1, addr := z.2.1, len := z.2.2 } : HostRead)
          ∃ t, exec .mapLoad s = .next t ∧ t.host.config = .executing id (.mapLoad n host) (some [])
            ∧ t.pool = s.pool ∧ t.host.engine = s.host.engine ∧ t.host.tracker = s.host.tracker
            ∧ t.host.events = s.host.events ∧ t.host.port.nextRead = s.host.port.nextRead + reads.length
            ∧ (s.host.port.placesSafe → t.host.port.sent.map (·.read) ++ t.host.port.waiting
                = s.host.port.sent.map (·.read) ++ s.host.port.waiting ++ reads)
            ∧ (s.host.port.sent.length + reads.length ≤ 128 →
                t.host.out = s.host.out ++ reads.map fun z => .read z.id z.addr z.len)))
    ∧ (let reads := imageReads n host
       (reads.flatMap fun z => (List.range z.2.2).map (z.2.1 + ·)) = (List.range (8 * n)).map (host + ·)
       ∧ (∀ z ∈ reads, 0 < z.2.2 ∧ z.2.2 ≤ 512 ∧ z.2.1 / 4096 = (z.2.1 + z.2.2 - 1) / 4096)
       ∧ ∀ older z younger, reads = older ++ z :: younger → z.1 = .image (older.map (·.2.2)).sum)
    ∧ ∀ (r : HostRead) (bytes : List Byte), s.host.config = .executing id (.mapLoad n host) (some []) → 0 < n →
      s.host.port.sent = [{ read := r, abandoned := false, bytes := List.replicate (8 * n) none }] →
      s.host.port.waiting = [] → r.owner = .image 0 → bytes.length = 8 * n →
      let es := mapEntries n bytes
      let h := s.host.setPort { s.host.port with sent := [] }
      let bad := fun i => ∃ e, es[i]? = some e ∧ (255 < e.bank ∨ 65535 < e.row ∨ 31 < e.spare
        ∨ (e.state ≠ 1 ∧ e.state ≠ 2)
        ∨ (∃ j f, j < i ∧ es[j]? = some f ∧ f.bank = e.bank ∧ f.spare = e.spare)
        ∨ (e.state = 1 ∧ ∃ j f, j < i ∧ es[j]? = some f ∧ f.state = 1 ∧ f.bank = e.bank ∧ f.row = e.row))
      es.length = n
      ∧ (∀ i, bad i → (∀ j, j < i → ¬bad j) → exec (.hostReadAnswer r.id (.data 0 bytes)) s =
          .next (s.setHost (h.completeCommand id .mapInvalid i)))
      ∧ ((∀ i, ¬bad i) → ∃ t, exec (.hostReadAnswer r.id (.data 0 bytes)) s = .next t
          ∧ t.pool = s.pool.setSpares t.pool.spares ∧ t.host = h.completeCommand id .ok n
          ∧ (∀ e ∈ es, ∀ (b : BankNo) (i : SpareNo), b.val = e.bank → i.val = e.spare →
              (e.state = 1 → ∃ w : RowNo, w.val = e.row ∧ t.pool.spare b i = .active w)
              ∧ (e.state = 2 → t.pool.spare b i = .retired))
          ∧ ∀ (b : BankNo) (i : SpareNo), (∀ e ∈ es, ¬(e.bank = b.val ∧ e.spare = i.val)) → t.pool.spare b i = .free)

/-! ## Invariants -/

/-- Every step keeps the bounds of the host side's collections, each from every state that has it: the pending event set
holds at most 64 entries of distinct keys with repeat counts 1 to 255 (R189), at most 128 host reads are sent and one
waits only while all places are taken (R198), no tracker slot is occupied twice (R126), and on every ACTIVE completion ring
unconsumed and reserved stay within the size, the reserved count that of the completions promised (R154). -/
def Obligations.StepKeepsHostCollections : Prop :=
  ∀ s t : State, step s = .next t →
    (s.host.events.safe → t.host.events.safe) ∧ (s.host.port.placesSafe → t.host.port.placesSafe)
    ∧ (s.host.tracker.safe → t.host.tracker.safe) ∧ (s.host.creditSafe → t.host.creditSafe)

/-- Every step keeps the bounds of the pool side's collections, each from every state that has it: the granule store its
canonical form, the health table at most 512 rows, each once, with counts 1 to 15 and WATCH counts below a threshold of
1 to 15 (R83, R84), the migration queue at most 16 rows, each once and none of them migrating, with one slot a bank,
cursors below 32 and attempts 1 to 3 (R57, R58, R60), each bank at most 30 general operations and 8 retries (R28, R34), and
the row map its rules: one TARGET spare for a migration in progress and none else (R42), no row ACTIVE in two spares (R43),
and in an ACTIVE channel the bank's migration record equal to the slot (R61). -/
def Obligations.StepKeepsPoolCollections : Prop :=
  ∀ s t : State, step s = .next t →
    (s.pool.mem.wf → t.pool.mem.wf) ∧ (s.pool.health.safe → t.pool.health.safe)
    ∧ (s.pool.migration.safe → t.pool.migration.safe) ∧ (s.pool.queuesSafe → t.pool.queuesSafe)
    ∧ (s.mapSafe → t.mapSafe)

/-- The state after power-on reset is safe: every bound that a step keeps holds there. -/
def Obligations.ResetIsSafe : Prop := State.reset.Safe
end

