-- ==== Sys2Proof/Laws/State.lean ====
section
/-! SUPPORT. One lemma for each field at each update of `HostSide`, `PoolSide` and `State`, and for rings, banks and
spares by number. -/

namespace Sys2Proof.Machine

/-! ## HostSide -/

@[simp] theorem HostSide.setPort_port (h : HostSide) (x : HostPort) : (h.setPort x).port = x := rfl
@[simp] theorem HostSide.setPort_out (h : HostSide) (x : HostPort) : (h.setPort x).out = h.out := rfl
@[simp] theorem HostSide.setPort_engine (h : HostSide) (x : HostPort) : (h.setPort x).engine = h.engine := rfl
@[simp] theorem HostSide.setPort_tracker (h : HostSide) (x : HostPort) : (h.setPort x).tracker = h.tracker := rfl
@[simp] theorem HostSide.setPort_config (h : HostSide) (x : HostPort) : (h.setPort x).config = h.config := rfl
@[simp] theorem HostSide.setPort_events (h : HostSide) (x : HostPort) : (h.setPort x).events = h.events := rfl
@[simp] theorem HostSide.setOut_port (h : HostSide) (x : List LinkMsg) : (h.setOut x).port = h.port := rfl
@[simp] theorem HostSide.setOut_out (h : HostSide) (x : List LinkMsg) : (h.setOut x).out = x := rfl
@[simp] theorem HostSide.setOut_engine (h : HostSide) (x : List LinkMsg) : (h.setOut x).engine = h.engine := rfl
@[simp] theorem HostSide.setOut_tracker (h : HostSide) (x : List LinkMsg) : (h.setOut x).tracker = h.tracker := rfl
@[simp] theorem HostSide.setOut_config (h : HostSide) (x : List LinkMsg) : (h.setOut x).config = h.config := rfl
@[simp] theorem HostSide.setOut_events (h : HostSide) (x : List LinkMsg) : (h.setOut x).events = h.events := rfl
@[simp] theorem HostSide.setEngine_port (h : HostSide) (x : QueueEngine) : (h.setEngine x).port = h.port := rfl
@[simp] theorem HostSide.setEngine_out (h : HostSide) (x : QueueEngine) : (h.setEngine x).out = h.out := rfl
@[simp] theorem HostSide.setEngine_engine (h : HostSide) (x : QueueEngine) : (h.setEngine x).engine = x := rfl
@[simp] theorem HostSide.setEngine_tracker (h : HostSide) (x : QueueEngine) :
    (h.setEngine x).tracker = h.tracker := rfl
@[simp] theorem HostSide.setEngine_config (h : HostSide) (x : QueueEngine) : (h.setEngine x).config = h.config := rfl
@[simp] theorem HostSide.setEngine_events (h : HostSide) (x : QueueEngine) : (h.setEngine x).events = h.events := rfl
@[simp] theorem HostSide.setTracker_port (h : HostSide) (x : Tracker) : (h.setTracker x).port = h.port := rfl
@[simp] theorem HostSide.setTracker_out (h : HostSide) (x : Tracker) : (h.setTracker x).out = h.out := rfl
@[simp] theorem HostSide.setTracker_engine (h : HostSide) (x : Tracker) : (h.setTracker x).engine = h.engine := rfl
@[simp] theorem HostSide.setTracker_tracker (h : HostSide) (x : Tracker) : (h.setTracker x).tracker = x := rfl
@[simp] theorem HostSide.setTracker_config (h : HostSide) (x : Tracker) : (h.setTracker x).config = h.config := rfl
@[simp] theorem HostSide.setTracker_events (h : HostSide) (x : Tracker) : (h.setTracker x).events = h.events := rfl
@[simp] theorem HostSide.setConfig_port (h : HostSide) (x : ConfigUnit) : (h.setConfig x).port = h.port := rfl
@[simp] theorem HostSide.setConfig_out (h : HostSide) (x : ConfigUnit) : (h.setConfig x).out = h.out := rfl
@[simp] theorem HostSide.setConfig_engine (h : HostSide) (x : ConfigUnit) : (h.setConfig x).engine = h.engine := rfl
@[simp] theorem HostSide.setConfig_tracker (h : HostSide) (x : ConfigUnit) :
    (h.setConfig x).tracker = h.tracker := rfl
@[simp] theorem HostSide.setConfig_config (h : HostSide) (x : ConfigUnit) : (h.setConfig x).config = x := rfl
@[simp] theorem HostSide.setConfig_events (h : HostSide) (x : ConfigUnit) : (h.setConfig x).events = h.events := rfl
@[simp] theorem HostSide.setEvents_port (h : HostSide) (x : EventUnit) : (h.setEvents x).port = h.port := rfl
@[simp] theorem HostSide.setEvents_out (h : HostSide) (x : EventUnit) : (h.setEvents x).out = h.out := rfl
@[simp] theorem HostSide.setEvents_engine (h : HostSide) (x : EventUnit) : (h.setEvents x).engine = h.engine := rfl
@[simp] theorem HostSide.setEvents_tracker (h : HostSide) (x : EventUnit) : (h.setEvents x).tracker = h.tracker := rfl
@[simp] theorem HostSide.setEvents_config (h : HostSide) (x : EventUnit) : (h.setEvents x).config = h.config := rfl
@[simp] theorem HostSide.setEvents_events (h : HostSide) (x : EventUnit) : (h.setEvents x).events = x := rfl

/-! ## PoolSide -/

@[simp] theorem PoolSide.setControl_control (p : PoolSide) (x : PoolControl) : (p.setControl x).control = x := rfl
@[simp] theorem PoolSide.setControl_banks (p : PoolSide) (x : PoolControl) : (p.setControl x).banks = p.banks := rfl
@[simp] theorem PoolSide.setControl_channels (p : PoolSide) (x : PoolControl) :
    (p.setControl x).channels = p.channels := rfl
@[simp] theorem PoolSide.setControl_signals (p : PoolSide) (x : PoolControl) :
    (p.setControl x).signals = p.signals := rfl
@[simp] theorem PoolSide.setControl_reports (p : PoolSide) (x : PoolControl) :
    (p.setControl x).reports = p.reports := rfl
@[simp] theorem PoolSide.setControl_spares (p : PoolSide) (x : PoolControl) :
    (p.setControl x).spares = p.spares := rfl
@[simp] theorem PoolSide.setControl_migration (p : PoolSide) (x : PoolControl) :
    (p.setControl x).migration = p.migration := rfl
@[simp] theorem PoolSide.setControl_health (p : PoolSide) (x : PoolControl) :
    (p.setControl x).health = p.health := rfl
@[simp] theorem PoolSide.setControl_scrub (p : PoolSide) (x : PoolControl) : (p.setControl x).scrub = p.scrub := rfl
@[simp] theorem PoolSide.setControl_mem (p : PoolSide) (x : PoolControl) : (p.setControl x).mem = p.mem := rfl
@[simp] theorem PoolSide.setControl_freeCount (p : PoolSide) (x : PoolControl) :
    (p.setControl x).freeCount = p.freeCount := rfl
@[simp] theorem PoolSide.setBanks_control (p : PoolSide) (x : Vector Bank 256) :
    (p.setBanks x).control = p.control := rfl
@[simp] theorem PoolSide.setBanks_banks (p : PoolSide) (x : Vector Bank 256) : (p.setBanks x).banks = x := rfl
@[simp] theorem PoolSide.setBanks_channels (p : PoolSide) (x : Vector Bank 256) :
    (p.setBanks x).channels = p.channels := rfl
@[simp] theorem PoolSide.setBanks_signals (p : PoolSide) (x : Vector Bank 256) :
    (p.setBanks x).signals = p.signals := rfl
@[simp] theorem PoolSide.setBanks_reports (p : PoolSide) (x : Vector Bank 256) :
    (p.setBanks x).reports = p.reports := rfl
@[simp] theorem PoolSide.setBanks_spares (p : PoolSide) (x : Vector Bank 256) :
    (p.setBanks x).spares = p.spares := rfl
@[simp] theorem PoolSide.setBanks_migration (p : PoolSide) (x : Vector Bank 256) :
    (p.setBanks x).migration = p.migration := rfl
@[simp] theorem PoolSide.setBanks_health (p : PoolSide) (x : Vector Bank 256) :
    (p.setBanks x).health = p.health := rfl
@[simp] theorem PoolSide.setBanks_scrub (p : PoolSide) (x : Vector Bank 256) : (p.setBanks x).scrub = p.scrub := rfl
@[simp] theorem PoolSide.setBanks_mem (p : PoolSide) (x : Vector Bank 256) : (p.setBanks x).mem = p.mem := rfl
@[simp] theorem PoolSide.setBanks_freeCount (p : PoolSide) (x : Vector Bank 256) :
    (p.setBanks x).freeCount = p.freeCount := rfl
@[simp] theorem PoolSide.setChannels_control (p : PoolSide) (x : Vector ChannelState 16) :
    (p.setChannels x).control = p.control := rfl
@[simp] theorem PoolSide.setChannels_banks (p : PoolSide) (x : Vector ChannelState 16) :
    (p.setChannels x).banks = p.banks := rfl
@[simp] theorem PoolSide.setChannels_channels (p : PoolSide) (x : Vector ChannelState 16) :
    (p.setChannels x).channels = x := rfl
@[simp] theorem PoolSide.setChannels_signals (p : PoolSide) (x : Vector ChannelState 16) :
    (p.setChannels x).signals = p.signals := rfl
@[simp] theorem PoolSide.setChannels_reports (p : PoolSide) (x : Vector ChannelState 16) :
    (p.setChannels x).reports = p.reports := rfl
@[simp] theorem PoolSide.setChannels_spares (p : PoolSide) (x : Vector ChannelState 16) :
    (p.setChannels x).spares = p.spares := rfl
@[simp] theorem PoolSide.setChannels_migration (p : PoolSide) (x : Vector ChannelState 16) :
    (p.setChannels x).migration = p.migration := rfl
@[simp] theorem PoolSide.setChannels_health (p : PoolSide) (x : Vector ChannelState 16) :
    (p.setChannels x).health = p.health := rfl
@[simp] theorem PoolSide.setChannels_scrub (p : PoolSide) (x : Vector ChannelState 16) :
    (p.setChannels x).scrub = p.scrub := rfl
@[simp] theorem PoolSide.setChannels_mem (p : PoolSide) (x : Vector ChannelState 16) :
    (p.setChannels x).mem = p.mem := rfl
@[simp] theorem PoolSide.setChannels_freeCount (p : PoolSide) (x : Vector ChannelState 16) :
    (p.setChannels x).freeCount = p.freeCount := rfl
@[simp] theorem PoolSide.setSignals_control (p : PoolSide) (x : List (SignalTarget × ChanNo)) :
    (p.setSignals x).control = p.control := rfl
@[simp] theorem PoolSide.setSignals_banks (p : PoolSide) (x : List (SignalTarget × ChanNo)) :
    (p.setSignals x).banks = p.banks := rfl
@[simp] theorem PoolSide.setSignals_channels (p : PoolSide) (x : List (SignalTarget × ChanNo)) :
    (p.setSignals x).channels = p.channels := rfl
@[simp] theorem PoolSide.setSignals_signals (p : PoolSide) (x : List (SignalTarget × ChanNo)) :
    (p.setSignals x).signals = x := rfl
@[simp] theorem PoolSide.setSignals_reports (p : PoolSide) (x : List (SignalTarget × ChanNo)) :
    (p.setSignals x).reports = p.reports := rfl
@[simp] theorem PoolSide.setSignals_spares (p : PoolSide) (x : List (SignalTarget × ChanNo)) :
    (p.setSignals x).spares = p.spares := rfl
@[simp] theorem PoolSide.setSignals_migration (p : PoolSide) (x : List (SignalTarget × ChanNo)) :
    (p.setSignals x).migration = p.migration := rfl
@[simp] theorem PoolSide.setSignals_health (p : PoolSide) (x : List (SignalTarget × ChanNo)) :
    (p.setSignals x).health = p.health := rfl
@[simp] theorem PoolSide.setSignals_scrub (p : PoolSide) (x : List (SignalTarget × ChanNo)) :
    (p.setSignals x).scrub = p.scrub := rfl
@[simp] theorem PoolSide.setSignals_mem (p : PoolSide) (x : List (SignalTarget × ChanNo)) :
    (p.setSignals x).mem = p.mem := rfl
@[simp] theorem PoolSide.setSignals_freeCount (p : PoolSide) (x : List (SignalTarget × ChanNo)) :
    (p.setSignals x).freeCount = p.freeCount := rfl
@[simp] theorem PoolSide.setReports_control (p : PoolSide) (x : List Report) :
    (p.setReports x).control = p.control := rfl
@[simp] theorem PoolSide.setReports_banks (p : PoolSide) (x : List Report) : (p.setReports x).banks = p.banks := rfl
@[simp] theorem PoolSide.setReports_channels (p : PoolSide) (x : List Report) :
    (p.setReports x).channels = p.channels := rfl
@[simp] theorem PoolSide.setReports_signals (p : PoolSide) (x : List Report) :
    (p.setReports x).signals = p.signals := rfl
@[simp] theorem PoolSide.setReports_reports (p : PoolSide) (x : List Report) : (p.setReports x).reports = x := rfl
@[simp] theorem PoolSide.setReports_spares (p : PoolSide) (x : List Report) :
    (p.setReports x).spares = p.spares := rfl
@[simp] theorem PoolSide.setReports_migration (p : PoolSide) (x : List Report) :
    (p.setReports x).migration = p.migration := rfl
@[simp] theorem PoolSide.setReports_health (p : PoolSide) (x : List Report) :
    (p.setReports x).health = p.health := rfl
@[simp] theorem PoolSide.setReports_scrub (p : PoolSide) (x : List Report) : (p.setReports x).scrub = p.scrub := rfl
@[simp] theorem PoolSide.setReports_mem (p : PoolSide) (x : List Report) : (p.setReports x).mem = p.mem := rfl
@[simp] theorem PoolSide.setReports_freeCount (p : PoolSide) (x : List Report) :
    (p.setReports x).freeCount = p.freeCount := rfl
@[simp] theorem PoolSide.setSpares_control (p : PoolSide) (x : Vector (Vector Spare 32) 256) :
    (p.setSpares x).control = p.control := rfl
@[simp] theorem PoolSide.setSpares_banks (p : PoolSide) (x : Vector (Vector Spare 32) 256) :
    (p.setSpares x).banks = p.banks := rfl
@[simp] theorem PoolSide.setSpares_channels (p : PoolSide) (x : Vector (Vector Spare 32) 256) :
    (p.setSpares x).channels = p.channels := rfl
@[simp] theorem PoolSide.setSpares_signals (p : PoolSide) (x : Vector (Vector Spare 32) 256) :
    (p.setSpares x).signals = p.signals := rfl
@[simp] theorem PoolSide.setSpares_reports (p : PoolSide) (x : Vector (Vector Spare 32) 256) :
    (p.setSpares x).reports = p.reports := rfl
@[simp] theorem PoolSide.setSpares_spares (p : PoolSide) (x : Vector (Vector Spare 32) 256) :
    (p.setSpares x).spares = x := rfl
@[simp] theorem PoolSide.setSpares_migration (p : PoolSide) (x : Vector (Vector Spare 32) 256) :
    (p.setSpares x).migration = p.migration := rfl
@[simp] theorem PoolSide.setSpares_health (p : PoolSide) (x : Vector (Vector Spare 32) 256) :
    (p.setSpares x).health = p.health := rfl
@[simp] theorem PoolSide.setSpares_scrub (p : PoolSide) (x : Vector (Vector Spare 32) 256) :
    (p.setSpares x).scrub = p.scrub := rfl
@[simp] theorem PoolSide.setSpares_mem (p : PoolSide) (x : Vector (Vector Spare 32) 256) :
    (p.setSpares x).mem = p.mem := rfl
@[simp] theorem PoolSide.setSpares_freeCount (p : PoolSide) (x : Vector (Vector Spare 32) 256) :
    (p.setSpares x).freeCount = p.freeCount := rfl
@[simp] theorem PoolSide.setMigration_control (p : PoolSide) (x : Migration) :
    (p.setMigration x).control = p.control := rfl
@[simp] theorem PoolSide.setMigration_banks (p : PoolSide) (x : Migration) : (p.setMigration x).banks = p.banks := rfl
@[simp] theorem PoolSide.setMigration_channels (p : PoolSide) (x : Migration) :
    (p.setMigration x).channels = p.channels := rfl
@[simp] theorem PoolSide.setMigration_signals (p : PoolSide) (x : Migration) :
    (p.setMigration x).signals = p.signals := rfl
@[simp] theorem PoolSide.setMigration_reports (p : PoolSide) (x : Migration) :
    (p.setMigration x).reports = p.reports := rfl
@[simp] theorem PoolSide.setMigration_spares (p : PoolSide) (x : Migration) :
    (p.setMigration x).spares = p.spares := rfl
@[simp] theorem PoolSide.setMigration_migration (p : PoolSide) (x : Migration) :
    (p.setMigration x).migration = x := rfl
@[simp] theorem PoolSide.setMigration_health (p : PoolSide) (x : Migration) :
    (p.setMigration x).health = p.health := rfl
@[simp] theorem PoolSide.setMigration_scrub (p : PoolSide) (x : Migration) : (p.setMigration x).scrub = p.scrub := rfl
@[simp] theorem PoolSide.setMigration_mem (p : PoolSide) (x : Migration) : (p.setMigration x).mem = p.mem := rfl
@[simp] theorem PoolSide.setMigration_freeCount (p : PoolSide) (x : Migration) :
    (p.setMigration x).freeCount = p.freeCount := rfl
@[simp] theorem PoolSide.setHealth_control (p : PoolSide) (x : Health) : (p.setHealth x).control = p.control := rfl
@[simp] theorem PoolSide.setHealth_banks (p : PoolSide) (x : Health) : (p.setHealth x).banks = p.banks := rfl
@[simp] theorem PoolSide.setHealth_channels (p : PoolSide) (x : Health) : (p.setHealth x).channels = p.channels := rfl
@[simp] theorem PoolSide.setHealth_signals (p : PoolSide) (x : Health) : (p.setHealth x).signals = p.signals := rfl
@[simp] theorem PoolSide.setHealth_reports (p : PoolSide) (x : Health) : (p.setHealth x).reports = p.reports := rfl
@[simp] theorem PoolSide.setHealth_spares (p : PoolSide) (x : Health) : (p.setHealth x).spares = p.spares := rfl
@[simp] theorem PoolSide.setHealth_migration (p : PoolSide) (x : Health) :
    (p.setHealth x).migration = p.migration := rfl
@[simp] theorem PoolSide.setHealth_health (p : PoolSide) (x : Health) : (p.setHealth x).health = x := rfl
@[simp] theorem PoolSide.setHealth_scrub (p : PoolSide) (x : Health) : (p.setHealth x).scrub = p.scrub := rfl
@[simp] theorem PoolSide.setHealth_mem (p : PoolSide) (x : Health) : (p.setHealth x).mem = p.mem := rfl
@[simp] theorem PoolSide.setHealth_freeCount (p : PoolSide) (x : Health) :
    (p.setHealth x).freeCount = p.freeCount := rfl
@[simp] theorem PoolSide.setScrub_control (p : PoolSide) (x : Scrub) : (p.setScrub x).control = p.control := rfl
@[simp] theorem PoolSide.setScrub_banks (p : PoolSide) (x : Scrub) : (p.setScrub x).banks = p.banks := rfl
@[simp] theorem PoolSide.setScrub_channels (p : PoolSide) (x : Scrub) : (p.setScrub x).channels = p.channels := rfl
@[simp] theorem PoolSide.setScrub_signals (p : PoolSide) (x : Scrub) : (p.setScrub x).signals = p.signals := rfl
@[simp] theorem PoolSide.setScrub_reports (p : PoolSide) (x : Scrub) : (p.setScrub x).reports = p.reports := rfl
@[simp] theorem PoolSide.setScrub_spares (p : PoolSide) (x : Scrub) : (p.setScrub x).spares = p.spares := rfl
@[simp] theorem PoolSide.setScrub_migration (p : PoolSide) (x : Scrub) : (p.setScrub x).migration = p.migration := rfl
@[simp] theorem PoolSide.setScrub_health (p : PoolSide) (x : Scrub) : (p.setScrub x).health = p.health := rfl
@[simp] theorem PoolSide.setScrub_scrub (p : PoolSide) (x : Scrub) : (p.setScrub x).scrub = x := rfl
@[simp] theorem PoolSide.setScrub_mem (p : PoolSide) (x : Scrub) : (p.setScrub x).mem = p.mem := rfl
@[simp] theorem PoolSide.setScrub_freeCount (p : PoolSide) (x : Scrub) : (p.setScrub x).freeCount = p.freeCount := rfl
@[simp] theorem PoolSide.setMem_control (p : PoolSide) (x : Memory) : (p.setMem x).control = p.control := rfl
@[simp] theorem PoolSide.setMem_banks (p : PoolSide) (x : Memory) : (p.setMem x).banks = p.banks := rfl
@[simp] theorem PoolSide.setMem_channels (p : PoolSide) (x : Memory) : (p.setMem x).channels = p.channels := rfl
@[simp] theorem PoolSide.setMem_signals (p : PoolSide) (x : Memory) : (p.setMem x).signals = p.signals := rfl
@[simp] theorem PoolSide.setMem_reports (p : PoolSide) (x : Memory) : (p.setMem x).reports = p.reports := rfl
@[simp] theorem PoolSide.setMem_spares (p : PoolSide) (x : Memory) : (p.setMem x).spares = p.spares := rfl
@[simp] theorem PoolSide.setMem_migration (p : PoolSide) (x : Memory) : (p.setMem x).migration = p.migration := rfl
@[simp] theorem PoolSide.setMem_health (p : PoolSide) (x : Memory) : (p.setMem x).health = p.health := rfl
@[simp] theorem PoolSide.setMem_scrub (p : PoolSide) (x : Memory) : (p.setMem x).scrub = p.scrub := rfl
@[simp] theorem PoolSide.setMem_mem (p : PoolSide) (x : Memory) : (p.setMem x).mem = x := rfl
@[simp] theorem PoolSide.setMem_freeCount (p : PoolSide) (x : Memory) : (p.setMem x).freeCount = p.freeCount := rfl
@[simp] theorem PoolSide.setFreeCount_control (p : PoolSide) (x : Nat) : (p.setFreeCount x).control = p.control := rfl
@[simp] theorem PoolSide.setFreeCount_banks (p : PoolSide) (x : Nat) : (p.setFreeCount x).banks = p.banks := rfl
@[simp] theorem PoolSide.setFreeCount_channels (p : PoolSide) (x : Nat) :
    (p.setFreeCount x).channels = p.channels := rfl
@[simp] theorem PoolSide.setFreeCount_signals (p : PoolSide) (x : Nat) : (p.setFreeCount x).signals = p.signals := rfl
@[simp] theorem PoolSide.setFreeCount_reports (p : PoolSide) (x : Nat) : (p.setFreeCount x).reports = p.reports := rfl
@[simp] theorem PoolSide.setFreeCount_spares (p : PoolSide) (x : Nat) : (p.setFreeCount x).spares = p.spares := rfl
@[simp] theorem PoolSide.setFreeCount_migration (p : PoolSide) (x : Nat) :
    (p.setFreeCount x).migration = p.migration := rfl
@[simp] theorem PoolSide.setFreeCount_health (p : PoolSide) (x : Nat) : (p.setFreeCount x).health = p.health := rfl
@[simp] theorem PoolSide.setFreeCount_scrub (p : PoolSide) (x : Nat) : (p.setFreeCount x).scrub = p.scrub := rfl
@[simp] theorem PoolSide.setFreeCount_mem (p : PoolSide) (x : Nat) : (p.setFreeCount x).mem = p.mem := rfl
@[simp] theorem PoolSide.setFreeCount_freeCount (p : PoolSide) (x : Nat) : (p.setFreeCount x).freeCount = x := rfl

/-! ## State -/

@[simp] theorem State.setHost_host (s : State) (x : HostSide) : (s.setHost x).host = x := rfl
@[simp] theorem State.setHost_pool (s : State) (x : HostSide) : (s.setHost x).pool = s.pool := rfl
@[simp] theorem State.setHost_pending (s : State) (x : HostSide) : (s.setHost x).pending = s.pending := rfl
@[simp] theorem State.setPool_host (s : State) (x : PoolSide) : (s.setPool x).host = s.host := rfl
@[simp] theorem State.setPool_pool (s : State) (x : PoolSide) : (s.setPool x).pool = x := rfl
@[simp] theorem State.setPool_pending (s : State) (x : PoolSide) : (s.setPool x).pending = s.pending := rfl
@[simp] theorem State.setPending_host (s : State) (x : List Instr) : (s.setPending x).host = s.host := rfl
@[simp] theorem State.setPending_pool (s : State) (x : List Instr) : (s.setPending x).pool = s.pool := rfl
@[simp] theorem State.setPending_pending (s : State) (x : List Instr) : (s.setPending x).pending = x := rfl

/-! ## Rings -/

@[simp] theorem HostSide.setRq_port (h : HostSide) (n : RingId) (r : Rq) : (h.setRq n r).port = h.port := rfl
@[simp] theorem HostSide.setRq_out (h : HostSide) (n : RingId) (r : Rq) : (h.setRq n r).out = h.out := rfl
@[simp] theorem HostSide.setRq_tracker (h : HostSide) (n : RingId) (r : Rq) : (h.setRq n r).tracker = h.tracker := rfl
@[simp] theorem HostSide.setRq_config (h : HostSide) (n : RingId) (r : Rq) : (h.setRq n r).config = h.config := rfl
@[simp] theorem HostSide.setRq_events (h : HostSide) (n : RingId) (r : Rq) : (h.setRq n r).events = h.events := rfl
@[simp] theorem HostSide.setRq_engine_rqs (h : HostSide) (n : RingId) (r : Rq) :
    (h.setRq n r).engine.rqs = h.engine.rqs.set n r := rfl
@[simp] theorem HostSide.setRq_engine_cqs (h : HostSide) (n : RingId) (r : Rq) :
    (h.setRq n r).engine.cqs = h.engine.cqs := rfl
@[simp] theorem HostSide.setRq_engine_eq (h : HostSide) (n : RingId) (r : Rq) :
    (h.setRq n r).engine.eq = h.engine.eq := rfl
@[simp] theorem HostSide.setRq_engine_fetch (h : HostSide) (n : RingId) (r : Rq) :
    (h.setRq n r).engine.fetch = h.engine.fetch := rfl
@[simp] theorem HostSide.setRq_engine_position (h : HostSide) (n : RingId) (r : Rq) :
    (h.setRq n r).engine.position = h.engine.position := rfl
@[simp] theorem HostSide.setCq_port (h : HostSide) (n : RingId) (q : Cq) : (h.setCq n q).port = h.port := rfl
@[simp] theorem HostSide.setCq_out (h : HostSide) (n : RingId) (q : Cq) : (h.setCq n q).out = h.out := rfl
@[simp] theorem HostSide.setCq_tracker (h : HostSide) (n : RingId) (q : Cq) : (h.setCq n q).tracker = h.tracker := rfl
@[simp] theorem HostSide.setCq_config (h : HostSide) (n : RingId) (q : Cq) : (h.setCq n q).config = h.config := rfl
@[simp] theorem HostSide.setCq_events (h : HostSide) (n : RingId) (q : Cq) : (h.setCq n q).events = h.events := rfl
@[simp] theorem HostSide.setCq_engine_rqs (h : HostSide) (n : RingId) (q : Cq) :
    (h.setCq n q).engine.rqs = h.engine.rqs := rfl
@[simp] theorem HostSide.setCq_engine_cqs (h : HostSide) (n : RingId) (q : Cq) :
    (h.setCq n q).engine.cqs = h.engine.cqs.set n q := rfl
@[simp] theorem HostSide.setCq_engine_eq (h : HostSide) (n : RingId) (q : Cq) :
    (h.setCq n q).engine.eq = h.engine.eq := rfl
@[simp] theorem HostSide.setCq_engine_fetch (h : HostSide) (n : RingId) (q : Cq) :
    (h.setCq n q).engine.fetch = h.engine.fetch := rfl
@[simp] theorem HostSide.setCq_engine_position (h : HostSide) (n : RingId) (q : Cq) :
    (h.setCq n q).engine.position = h.engine.position := rfl
@[simp] theorem HostSide.setEq_port (h : HostSide) (r : EvRing) : (h.setEq r).port = h.port := rfl
@[simp] theorem HostSide.setEq_out (h : HostSide) (r : EvRing) : (h.setEq r).out = h.out := rfl
@[simp] theorem HostSide.setEq_tracker (h : HostSide) (r : EvRing) : (h.setEq r).tracker = h.tracker := rfl
@[simp] theorem HostSide.setEq_config (h : HostSide) (r : EvRing) : (h.setEq r).config = h.config := rfl
@[simp] theorem HostSide.setEq_events (h : HostSide) (r : EvRing) : (h.setEq r).events = h.events := rfl
@[simp] theorem HostSide.setEq_engine_rqs (h : HostSide) (r : EvRing) : (h.setEq r).engine.rqs = h.engine.rqs := rfl
@[simp] theorem HostSide.setEq_engine_cqs (h : HostSide) (r : EvRing) : (h.setEq r).engine.cqs = h.engine.cqs := rfl
@[simp] theorem HostSide.setEq_engine_eq (h : HostSide) (r : EvRing) : (h.setEq r).engine.eq = r := rfl
@[simp] theorem HostSide.setEq_engine_fetch (h : HostSide) (r : EvRing) :
    (h.setEq r).engine.fetch = h.engine.fetch := rfl
@[simp] theorem HostSide.setEq_engine_position (h : HostSide) (r : EvRing) :
    (h.setEq r).engine.position = h.engine.position := rfl
@[simp] theorem HostSide.setFetch_port (h : HostSide) (f : Option Fetch) : (h.setFetch f).port = h.port := rfl
@[simp] theorem HostSide.setFetch_out (h : HostSide) (f : Option Fetch) : (h.setFetch f).out = h.out := rfl
@[simp] theorem HostSide.setFetch_tracker (h : HostSide) (f : Option Fetch) :
    (h.setFetch f).tracker = h.tracker := rfl
@[simp] theorem HostSide.setFetch_config (h : HostSide) (f : Option Fetch) : (h.setFetch f).config = h.config := rfl
@[simp] theorem HostSide.setFetch_events (h : HostSide) (f : Option Fetch) : (h.setFetch f).events = h.events := rfl
@[simp] theorem HostSide.setFetch_engine_rqs (h : HostSide) (f : Option Fetch) :
    (h.setFetch f).engine.rqs = h.engine.rqs := rfl
@[simp] theorem HostSide.setFetch_engine_cqs (h : HostSide) (f : Option Fetch) :
    (h.setFetch f).engine.cqs = h.engine.cqs := rfl
@[simp] theorem HostSide.setFetch_engine_eq (h : HostSide) (f : Option Fetch) :
    (h.setFetch f).engine.eq = h.engine.eq := rfl
@[simp] theorem HostSide.setFetch_engine_fetch (h : HostSide) (f : Option Fetch) :
    (h.setFetch f).engine.fetch = f := rfl
@[simp] theorem HostSide.setFetch_engine_position (h : HostSide) (f : Option Fetch) :
    (h.setFetch f).engine.position = h.engine.position := rfl

@[simp] theorem HostSide.rq_setRq_self (h : HostSide) (n : RingId) (r : Rq) : (h.setRq n r).rq n = r := by
  simp [HostSide.rq, HostSide.setRq]

theorem HostSide.rq_setRq (h : HostSide) (n m : RingId) (r : Rq) :
    (h.setRq n r).rq m = if n = m then r else h.rq m := by
  simp [HostSide.rq, HostSide.setRq, Vector.getElem_set, Fin.ext_iff]

@[simp] theorem HostSide.cq_setCq_self (h : HostSide) (n : RingId) (q : Cq) : (h.setCq n q).cq n = q := by
  simp [HostSide.cq, HostSide.setCq]

theorem HostSide.cq_setCq (h : HostSide) (n m : RingId) (q : Cq) :
    (h.setCq n q).cq m = if n = m then q else h.cq m := by
  simp [HostSide.cq, HostSide.setCq, Vector.getElem_set, Fin.ext_iff]

@[simp] theorem HostSide.cq_setRq (h : HostSide) (n m : RingId) (r : Rq) : (h.setRq n r).cq m = h.cq m := rfl
@[simp] theorem HostSide.rq_setCq (h : HostSide) (n m : RingId) (q : Cq) : (h.setCq n q).rq m = h.rq m := rfl
@[simp] theorem HostSide.rq_setEq (h : HostSide) (m : RingId) (r : EvRing) : (h.setEq r).rq m = h.rq m := rfl
@[simp] theorem HostSide.cq_setEq (h : HostSide) (m : RingId) (r : EvRing) : (h.setEq r).cq m = h.cq m := rfl
@[simp] theorem HostSide.rq_setFetch (h : HostSide) (m : RingId) (f : Option Fetch) :
    (h.setFetch f).rq m = h.rq m := rfl
@[simp] theorem HostSide.cq_setFetch (h : HostSide) (m : RingId) (f : Option Fetch) :
    (h.setFetch f).cq m = h.cq m := rfl

@[simp] theorem HostSide.rq_setPort (h : HostSide) (x : HostPort) (n : RingId) : (h.setPort x).rq n = h.rq n := rfl
@[simp] theorem HostSide.cq_setPort (h : HostSide) (x : HostPort) (n : RingId) : (h.setPort x).cq n = h.cq n := rfl
@[simp] theorem HostSide.rq_setOut (h : HostSide) (x : List LinkMsg) (n : RingId) : (h.setOut x).rq n = h.rq n := rfl
@[simp] theorem HostSide.cq_setOut (h : HostSide) (x : List LinkMsg) (n : RingId) : (h.setOut x).cq n = h.cq n := rfl
@[simp] theorem HostSide.rq_setTracker (h : HostSide) (x : Tracker) (n : RingId) :
    (h.setTracker x).rq n = h.rq n := rfl
@[simp] theorem HostSide.cq_setTracker (h : HostSide) (x : Tracker) (n : RingId) :
    (h.setTracker x).cq n = h.cq n := rfl
@[simp] theorem HostSide.rq_setConfig (h : HostSide) (x : ConfigUnit) (n : RingId) :
    (h.setConfig x).rq n = h.rq n := rfl
@[simp] theorem HostSide.cq_setConfig (h : HostSide) (x : ConfigUnit) (n : RingId) :
    (h.setConfig x).cq n = h.cq n := rfl
@[simp] theorem HostSide.rq_setEvents (h : HostSide) (x : EventUnit) (n : RingId) :
    (h.setEvents x).rq n = h.rq n := rfl
@[simp] theorem HostSide.cq_setEvents (h : HostSide) (x : EventUnit) (n : RingId) :
    (h.setEvents x).cq n = h.cq n := rfl

/-! ## Banks and spares -/

@[simp] theorem PoolSide.setBank_control (p : PoolSide) (b : BankNo) (x : Bank) :
    (p.setBank b x).control = p.control := rfl
@[simp] theorem PoolSide.setBank_channels (p : PoolSide) (b : BankNo) (x : Bank) :
    (p.setBank b x).channels = p.channels := rfl
@[simp] theorem PoolSide.setBank_signals (p : PoolSide) (b : BankNo) (x : Bank) :
    (p.setBank b x).signals = p.signals := rfl
@[simp] theorem PoolSide.setBank_reports (p : PoolSide) (b : BankNo) (x : Bank) :
    (p.setBank b x).reports = p.reports := rfl
@[simp] theorem PoolSide.setBank_spares (p : PoolSide) (b : BankNo) (x : Bank) :
    (p.setBank b x).spares = p.spares := rfl
@[simp] theorem PoolSide.setBank_migration (p : PoolSide) (b : BankNo) (x : Bank) :
    (p.setBank b x).migration = p.migration := rfl
@[simp] theorem PoolSide.setBank_health (p : PoolSide) (b : BankNo) (x : Bank) :
    (p.setBank b x).health = p.health := rfl
@[simp] theorem PoolSide.setBank_scrub (p : PoolSide) (b : BankNo) (x : Bank) : (p.setBank b x).scrub = p.scrub := rfl
@[simp] theorem PoolSide.setBank_mem (p : PoolSide) (b : BankNo) (x : Bank) : (p.setBank b x).mem = p.mem := rfl
@[simp] theorem PoolSide.setBank_freeCount (p : PoolSide) (b : BankNo) (x : Bank) :
    (p.setBank b x).freeCount = p.freeCount := rfl
@[simp] theorem PoolSide.setSpare_control (p : PoolSide) (b : BankNo) (i : SpareNo) (x : Spare) :
    (p.setSpare b i x).control = p.control := rfl
@[simp] theorem PoolSide.setSpare_banks (p : PoolSide) (b : BankNo) (i : SpareNo) (x : Spare) :
    (p.setSpare b i x).banks = p.banks := rfl
@[simp] theorem PoolSide.setSpare_channels (p : PoolSide) (b : BankNo) (i : SpareNo) (x : Spare) :
    (p.setSpare b i x).channels = p.channels := rfl
@[simp] theorem PoolSide.setSpare_signals (p : PoolSide) (b : BankNo) (i : SpareNo) (x : Spare) :
    (p.setSpare b i x).signals = p.signals := rfl
@[simp] theorem PoolSide.setSpare_reports (p : PoolSide) (b : BankNo) (i : SpareNo) (x : Spare) :
    (p.setSpare b i x).reports = p.reports := rfl
@[simp] theorem PoolSide.setSpare_migration (p : PoolSide) (b : BankNo) (i : SpareNo) (x : Spare) :
    (p.setSpare b i x).migration = p.migration := rfl
@[simp] theorem PoolSide.setSpare_health (p : PoolSide) (b : BankNo) (i : SpareNo) (x : Spare) :
    (p.setSpare b i x).health = p.health := rfl
@[simp] theorem PoolSide.setSpare_scrub (p : PoolSide) (b : BankNo) (i : SpareNo) (x : Spare) :
    (p.setSpare b i x).scrub = p.scrub := rfl
@[simp] theorem PoolSide.setSpare_mem (p : PoolSide) (b : BankNo) (i : SpareNo) (x : Spare) :
    (p.setSpare b i x).mem = p.mem := rfl
@[simp] theorem PoolSide.setSpare_freeCount (p : PoolSide) (b : BankNo) (i : SpareNo) (x : Spare) :
    (p.setSpare b i x).freeCount = p.freeCount := rfl

@[simp] theorem PoolSide.bank_setBank_self (p : PoolSide) (b : BankNo) (x : Bank) : (p.setBank b x).bank b = x := by
  simp [PoolSide.bank, PoolSide.setBank]

theorem PoolSide.bank_setBank (p : PoolSide) (b c : BankNo) (x : Bank) :
    (p.setBank b x).bank c = if b = c then x else p.bank c := by
  simp [PoolSide.bank, PoolSide.setBank, Vector.getElem_set, Fin.ext_iff]

theorem PoolSide.bank_setBank_of_ne (p : PoolSide) {b c : BankNo} (h : b ≠ c) (x : Bank) :
    (p.setBank b x).bank c = p.bank c := by
  rw [PoolSide.bank_setBank, if_neg h]

theorem PoolSide.spare_setSpare (p : PoolSide) (b c : BankNo) (i j : SpareNo) (x : Spare) :
    (p.setSpare b i x).spare c j = if b = c ∧ i = j then x else p.spare c j := by
  by_cases hb : b = c
  · subst hb
    by_cases hi : i = j
    · subst hi; simp [PoolSide.spare, PoolSide.setSpare]
    · have : i.val ≠ j.val := fun h => hi (Fin.ext h)
      simp [PoolSide.spare, PoolSide.setSpare, hi, this]
  · have : b.val ≠ c.val := fun h => hb (Fin.ext h)
    simp [PoolSide.spare, PoolSide.setSpare, hb, this]

@[simp] theorem PoolSide.bankFailed_setBank (p : PoolSide) (b c : BankNo) (x : Bank) :
    (p.setBank b x).bankFailed c = p.bankFailed c := rfl

/-! ## Work -/

@[simp] theorem Work.start_pool (p : PoolSide) : (Work.start p).pool = p := rfl
@[simp] theorem Work.start_raised (p : PoolSide) : (Work.start p).raised = [] := rfl
@[simp] theorem Work.start_ends (p : PoolSide) : (Work.start p).ends = [] := rfl
@[simp] theorem Work.onPool_pool (w : Work) (f : PoolSide → PoolSide) : (w.onPool f).pool = f w.pool := rfl
@[simp] theorem Work.onPool_raised (w : Work) (f : PoolSide → PoolSide) : (w.onPool f).raised = w.raised := rfl
@[simp] theorem Work.onPool_ends (w : Work) (f : PoolSide → PoolSide) : (w.onPool f).ends = w.ends := rfl
@[simp] theorem Work.raise_pool (w : Work) (e : Event) : (w.raise e).pool = w.pool := rfl
@[simp] theorem Work.raise_raised (w : Work) (e : Event) : (w.raise e).raised = w.raised ++ [e] := rfl
@[simp] theorem Work.raise_ends (w : Work) (e : Event) : (w.raise e).ends = w.ends := rfl
@[simp] theorem Work.ended_pool (w : Work) (e : OpEnd) : (w.ended e).pool = w.pool := rfl
@[simp] theorem Work.ended_raised (w : Work) (e : OpEnd) : (w.ended e).raised = w.raised := rfl
@[simp] theorem Work.ended_ends (w : Work) (e : OpEnd) : (w.ended e).ends = w.ends ++ [e] := rfl

end Sys2Proof.Machine
end

