-- ==== Sys2Proof/Laws/Host.lean ====
section
/-! SUPPORT. What the shared operations of the host side can do: host reads, raising events, handing over completions, and
what follows from ended slots. -/

namespace Sys2Proof.Machine

/-! ## Host reads and their places -/

/-- Asking for a read changes the read places and what was sent, and nothing else. -/
theorem HostSide.placeRead_eq (h : HostSide) (owner : Owner) (addr len : Nat) :
    ∃ o p, h.placeRead owner addr len = (h.setOut o).setPort p := by
  unfold HostSide.placeRead
  dsimp only
  split
  · exact ⟨_, _, rfl⟩
  · exact ⟨h.out, _, rfl⟩

/-- Sending waiting reads changes the read places and what was sent, and nothing else. -/
theorem HostSide.sendWaiting_eq (k : Nat) (h : HostSide) : ∃ o p, h.sendWaiting k = (h.setOut o).setPort p := by
  induction k generalizing h with
  | zero => exact ⟨h.out, h.port, rfl⟩
  | succ k ih =>
    unfold HostSide.sendWaiting
    split
    · exact ⟨h.out, h.port, rfl⟩
    · split
      · obtain ⟨o, p, e⟩ := ih (HostSide.setOut (h.setPort _) _)
        exact ⟨o, p, e.trans rfl⟩
      · exact ⟨h.out, h.port, rfl⟩

/-- The end of a read changes only the read places and what was sent. -/
theorem HostSide.freePlace_eq (h : HostSide) (id : Nat) : ∃ o p, h.freePlace id = (h.setOut o).setPort p := by
  unfold HostSide.freePlace
  obtain ⟨o, p, e⟩ := HostSide.sendWaiting_eq h.port.waiting.length
    (h.setPort { h.port with sent := h.port.sent.filter fun r => r.read.id != id })
  exact ⟨o, p, e.trans rfl⟩

@[simp] theorem HostSide.endRead_tracker (h : HostSide) (id : Nat) : (h.endRead id).tracker = h.tracker := rfl

@[simp] theorem HostSide.endRead_engine (h : HostSide) (id : Nat) : (h.endRead id).engine = h.engine := rfl

@[simp] theorem HostSide.endRead_config (h : HostSide) (id : Nat) : (h.endRead id).config = h.config := rfl

@[simp] theorem HostSide.endRead_events (h : HostSide) (id : Nat) : (h.endRead id).events = h.events := rfl

@[simp] theorem HostSide.endRead_out (h : HostSide) (id : Nat) : (h.endRead id).out = h.out := rfl

@[simp] theorem HostSide.endRead_waiting (h : HostSide) (id : Nat) :
    (h.endRead id).port.waiting = h.port.waiting := rfl

@[simp] theorem HostSide.endRead_sent_length (h : HostSide) (id : Nat) :
    (h.endRead id).port.sent.length = h.port.sent.length := by simp [HostSide.endRead]

@[simp] theorem HostSide.freePlace_tracker (h : HostSide) (id : Nat) : (h.freePlace id).tracker = h.tracker := by
  obtain ⟨o, p, e⟩ := h.freePlace_eq id; rw [e]; rfl

@[simp] theorem HostSide.freePlace_engine (h : HostSide) (id : Nat) : (h.freePlace id).engine = h.engine := by
  obtain ⟨o, p, e⟩ := h.freePlace_eq id; rw [e]; rfl

@[simp] theorem HostSide.freePlace_config (h : HostSide) (id : Nat) : (h.freePlace id).config = h.config := by
  obtain ⟨o, p, e⟩ := h.freePlace_eq id; rw [e]; rfl

@[simp] theorem HostSide.freePlace_events (h : HostSide) (id : Nat) : (h.freePlace id).events = h.events := by
  obtain ⟨o, p, e⟩ := h.freePlace_eq id; rw [e]; rfl

/-! ## Events -/

/-- Posting events changes what was sent, the event ring and the pending event set, and nothing else. -/
theorem HostSide.postEvents_eq (k : Nat) (h : HostSide) :
    ∃ o r u, h.postEvents k = ((h.setOut o).setEq r).setEvents u := by
  induction k generalizing h with
  | zero => exact ⟨h.out, h.engine.eq, h.events, rfl⟩
  | succ k ih =>
    unfold HostSide.postEvents
    split
    · exact ⟨h.out, h.engine.eq, h.events, rfl⟩
    · dsimp only
      split
      · split
        · obtain ⟨o, r, u, e⟩ := ih (HostSide.setEvents (HostSide.setEq (HostSide.setOut h _) _) _)
          exact ⟨o, r, u, e.trans rfl⟩
        · exact ⟨h.out, _, _, rfl⟩
      · exact ⟨h.out, h.engine.eq, h.events, rfl⟩

/-- Raising an event changes what was sent, the event ring and the pending event set, and nothing else. -/
theorem HostSide.raise_eq (h : HostSide) (e : Event) : ∃ o r u, h.raise e = ((h.setOut o).setEq r).setEvents u := by
  unfold HostSide.raise
  split
  · dsimp only
    split
    · obtain ⟨o, r, u, hp⟩ := HostSide.postEvents_eq (h.setEvents (h.events.enter e)).events.entries.length
        (h.setEvents (h.events.enter e))
      exact ⟨o, r, u, by rw [hp]; rfl⟩
    · exact ⟨h.out, h.engine.eq, _, rfl⟩
  · exact ⟨h.out, h.engine.eq, h.events, rfl⟩

@[simp] theorem HostSide.raise_port (h : HostSide) (e : Event) : (h.raise e).port = h.port := by
  obtain ⟨o, r, u, hp⟩ := h.raise_eq e; rw [hp]; rfl

@[simp] theorem HostSide.raise_tracker (h : HostSide) (e : Event) : (h.raise e).tracker = h.tracker := by
  obtain ⟨o, r, u, hp⟩ := h.raise_eq e; rw [hp]; rfl

@[simp] theorem HostSide.raise_config (h : HostSide) (e : Event) : (h.raise e).config = h.config := by
  obtain ⟨o, r, u, hp⟩ := h.raise_eq e; rw [hp]; rfl

@[simp] theorem HostSide.rq_raise (h : HostSide) (e : Event) (n : RingId) : (h.raise e).rq n = h.rq n := by
  obtain ⟨o, r, u, hp⟩ := h.raise_eq e; rw [hp]; rfl

@[simp] theorem HostSide.cq_raise (h : HostSide) (e : Event) (n : RingId) : (h.raise e).cq n = h.cq n := by
  obtain ⟨o, r, u, hp⟩ := h.raise_eq e; rw [hp]; rfl

@[simp] theorem HostSide.raise_fetch (h : HostSide) (e : Event) : (h.raise e).engine.fetch = h.engine.fetch := by
  obtain ⟨o, r, u, hp⟩ := h.raise_eq e; rw [hp]; rfl

@[simp] theorem HostSide.raise_position (h : HostSide) (e : Event) :
    (h.raise e).engine.position = h.engine.position := by
  obtain ⟨o, r, u, hp⟩ := h.raise_eq e; rw [hp]; rfl

@[simp] theorem HostSide.raiseAll_nil (h : HostSide) : h.raiseAll [] = h := rfl

@[simp] theorem HostSide.raiseAll_cons (h : HostSide) (e : Event) (es : List Event) :
    h.raiseAll (e :: es) = (h.raise e).raiseAll es := rfl

@[simp] theorem HostSide.raiseAll_port (h : HostSide) (es : List Event) : (h.raiseAll es).port = h.port := by
  induction es generalizing h with
  | nil => rfl
  | cons e es ih => simp [ih]

@[simp] theorem HostSide.raiseAll_tracker (h : HostSide) (es : List Event) : (h.raiseAll es).tracker = h.tracker := by
  induction es generalizing h with
  | nil => rfl
  | cons e es ih => simp [ih]

@[simp] theorem HostSide.raiseAll_config (h : HostSide) (es : List Event) : (h.raiseAll es).config = h.config := by
  induction es generalizing h with
  | nil => rfl
  | cons e es ih => simp [ih]

/-! ## Completions -/

/-- A hand-over leaves the port, the tracker and the configuration unit. -/
theorem HostSide.handOver_kept (h : HostSide) (c : Completion) :
    (h.handOver c).port = h.port ∧ (h.handOver c).tracker = h.tracker ∧ (h.handOver c).config = h.config := by
  unfold HostSide.handOver
  dsimp only
  split
  · split <;> simp
  · simp
  · simp

@[simp] theorem HostSide.handOver_port (h : HostSide) (c : Completion) : (h.handOver c).port = h.port :=
  (h.handOver_kept c).1

@[simp] theorem HostSide.handOver_tracker (h : HostSide) (c : Completion) : (h.handOver c).tracker = h.tracker :=
  (h.handOver_kept c).2.1

@[simp] theorem HostSide.handOver_config (h : HostSide) (c : Completion) : (h.handOver c).config = h.config :=
  (h.handOver_kept c).2.2

/-- A command's completion leaves the unit IDLE, and the port and the tracker as they were. -/
theorem HostSide.completeCommand_kept (h : HostSide) (id : BitVec 16) (st : Status) (n : Nat) :
    (h.completeCommand id st n).port = h.port ∧ (h.completeCommand id st n).tracker = h.tracker
      ∧ (h.completeCommand id st n).config = .idle := by
  simp [HostSide.completeCommand]

/-! ## What follows from ended slots -/

/-- Quiescence is a fact of the slots and the configuration unit alone. -/
theorem HostSide.quiescent_of_eq {h k : HostSide} (q : h.quiescent) (ht : k.tracker.slots = h.tracker.slots)
    (hc : k.config = h.config) : k.quiescent := by
  refine ⟨?_, ?_⟩
  · rw [ht]; exact q.1
  · rw [hc]; exact q.2

/-- With nothing ready to complete, nothing follows. -/
theorem HostSide.settle_quiescent {h : HostSide} (q : h.quiescent) : h.settle = h := by
  have h1 : h.tracker.slots.find? h.slotReady = none := by
    rw [List.find?_eq_none]
    intro x hx
    obtain ⟨a, b⟩ := q.1 x hx
    cases hs : x.state <;> simp_all [HostSide.slotReady]
  have h2 : ∀ n, h.settleSlots n = h := by
    intro n
    cases n with
    | zero => rfl
    | succ n => simp [HostSide.settleSlots, h1]
  rw [HostSide.settle, h2, HostSide.endDrain]
  split
  · exact absurd ‹_› (q.2 _ _ _)
  · rfl
  · rfl

end Sys2Proof.Machine
end

