-- ==== Sys2Proof/Laws/Delivery.lean ====
section
/-! SUPPORT. What the delivery between the two sides can do: admission with nothing held, and the delivery of a step's
events and results. -/

namespace Sys2Proof.Machine

@[simp] theorem State.deliverEvents_host (s : State) (w : Work) :
    (s.deliverEvents w).host = s.host.raiseAll w.raised := rfl

@[simp] theorem State.deliverEvents_pool (s : State) (w : Work) : (s.deliverEvents w).pool = w.pool := rfl

@[simp] theorem State.deliverEvents_pending (s : State) (w : Work) : (s.deliverEvents w).pending = s.pending := rfl

/-- With no operation held for the banks that `f` names, nothing is admitted. -/
theorem State.admit_none {f : BankNo → Bool} {s : State}
    (hn : ∀ x ∈ s.host.tracker.slots, ∀ o, x.held = some o → f o.bank = false) (k : Nat) : s.admitNext f k = s := by
  cases k with
  | zero => rfl
  | succ k =>
    have : (s.host.tracker.waitingFor fun o => f o.bank && s.pool.admits o.bank) = none := by
      rw [Tracker.waitingFor, List.findSome?_eq_none_iff]
      intro x hx
      cases hh : x.held with
      | none => rfl
      | some o => simp [hn x hx o hh]
    simp [State.admitNext, this]

/-- With no operation held for the banks that `f` names, nothing is admitted. -/
theorem State.admitHeld_none {f : BankNo → Bool} {s : State}
    (hn : ∀ x ∈ s.host.tracker.slots, ∀ o, x.held = some o → f o.bank = false) : s.admitHeld f = s :=
  State.admit_none hn _

/-- Delivery with nothing held: the pool side of the step, its events raised and its results taken back in order, and
what follows from ended slots. -/
theorem State.deliver_none {f : BankNo → Bool} {s : State} {w : Work}
    (hn : ∀ x ∈ s.host.tracker.slots, ∀ o, x.held = some o → f o.bank = false) :
    s.deliver w f = (s.setPool w.pool).setHost
      (w.ends.foldl (fun h e => h.resultBack w.pool.control.stride e) (s.host.raiseAll w.raised)).settle := by
  have h1 : (s.deliverEvents w).admitHeld f = s.deliverEvents w :=
    State.admitHeld_none (by simpa using hn)
  simp only [State.deliver, h1]
  rfl

/-- Delivery of a step that ends no tracker operation, in a quiescent state with nothing held. -/
theorem State.deliver_quiescent {f : BankNo → Bool} {s : State} {w : Work} (q : s.host.quiescent)
    (hn : ∀ x ∈ s.host.tracker.slots, ∀ o, x.held = some o → f o.bank = false) (he : w.ends = []) :
    s.deliver w f = (s.setPool w.pool).setHost (s.host.raiseAll w.raised) := by
  rw [State.deliver_none hn, he, List.foldl_nil, HostSide.settle_quiescent]
  exact HostSide.quiescent_of_eq q (by simp) (by simp)

/-- An admission changes the banks alone of the pool side. -/
theorem State.placeOp_pool (s : State) (n : SlotNo) (o : BankOp) : ∃ b, (s.placeOp n o).pool = s.pool.setBanks b := by
  unfold State.placeOp
  dsimp only
  split
  · exact ⟨s.pool.banks, rfl⟩
  · simp only [State.setPool_pool, PoolSide.arrive]
    split <;> exact ⟨_, rfl⟩

/-- Admissions change the banks alone of the pool side. -/
theorem State.admit_pool (f : BankNo → Bool) (k : Nat) (s : State) : ∃ b, (s.admitNext f k).pool = s.pool.setBanks b := by
  induction k generalizing s with
  | zero => exact ⟨s.pool.banks, rfl⟩
  | succ k ih =>
    unfold State.admitNext
    split
    · obtain ⟨b, hb⟩ := ih (s.placeOp _ _)
      obtain ⟨c, hc⟩ := s.placeOp_pool ‹_› ‹_›
      exact ⟨b, by rw [hb, hc]; rfl⟩
    · exact ⟨s.pool.banks, rfl⟩

/-- Delivery gives the pool side of the step, but for the banks that held operations arrive at. -/
theorem State.deliver_pool (s : State) (w : Work) (f : BankNo → Bool) :
    ∃ b, (s.deliver w f).pool = w.pool.setBanks b := by
  obtain ⟨b, hb⟩ := State.admit_pool f (s.deliverEvents w).host.tracker.slots.length (s.deliverEvents w)
  exact ⟨b, by simpa [State.deliver, State.admitHeld] using hb⟩

end Sys2Proof.Machine
end

