-- ==== Sys2Proof/Laws/Memory.lean ====
section
/-! SUPPORT. The granule store: read after write, and the canonical form kept by every operation on it. -/

namespace Sys2Proof.Machine

/-- What is read after a write: the granule written at its key, and every other key as before. -/
theorem Memory.read_write (m : Memory) (k j : Nat) (v : Granule) :
    (m.write k v).read j = if k = j then some v else m.read j := by
  induction m with
  | nil => simp [Memory.write, Memory.read]
  | cons e rest ih =>
    obtain ⟨a, g⟩ := e
    by_cases h1 : k < a
    · simp [Memory.write, h1, Memory.read]
    · by_cases h2 : k = a
      · subst h2; by_cases h3 : k = j <;> simp [Memory.write, Memory.read, h3]
      · by_cases h3 : a = j
        · subst h3; simp [Memory.write, h1, h2, Memory.read]
        · simp [Memory.write, h1, h2, Memory.read, h3, ih]

@[simp] theorem Memory.read_write_self (m : Memory) (k : Nat) (v : Granule) : (m.write k v).read k = some v := by
  simp [Memory.read_write]

theorem Memory.read_write_of_ne (m : Memory) {k j : Nat} (h : k ≠ j) (v : Granule) :
    (m.write k v).read j = m.read j := by
  simp [Memory.read_write, h]

/-- A key that no write names reads as before. -/
theorem Memory.read_writeAll_of_not_mem (ws : List (Nat × Granule)) (m : Memory) (j : Nat)
    (h : ∀ w ∈ ws, w.1 ≠ j) : (m.writeAll ws).read j = m.read j := by
  induction ws generalizing m with
  | nil => rfl
  | cons w ws ih =>
    simp only [Memory.writeAll, List.foldl_cons] at ih ⊢
    rw [ih _ fun x hx => h x (List.mem_cons_of_mem _ hx)]
    exact Memory.read_write_of_ne m (h w List.mem_cons_self) w.2

/-- The keys after a write: the old ones and the one written. -/
theorem Memory.mem_keys_write (m : Memory) (k : Nat) (v : Granule) (j : Nat) :
    j ∈ (m.write k v).map Prod.fst → j = k ∨ j ∈ m.map Prod.fst := by
  induction m with
  | nil => simp [Memory.write]
  | cons e rest ih =>
    obtain ⟨a, g⟩ := e
    by_cases h1 : k < a
    · simp [Memory.write, h1]
    · by_cases h2 : k = a
      · simp [Memory.write, h2]
      · intro h
        simp only [Memory.write, h1, h2, if_false, List.map_cons, List.mem_cons] at h ⊢
        rcases h with h | h
        · exact .inr (.inl h)
        · rcases ih h with h | h
          · exact .inl h
          · exact .inr (.inr h)

/-- A write keeps the canonical form. -/
theorem Memory.wf_write {m : Memory} (h : m.wf) (k : Nat) (v : Granule) : (m.write k v).wf := by
  induction m with
  | nil => simp [Memory.write, Memory.wf]
  | cons e rest ih =>
    obtain ⟨a, g⟩ := e
    have h' := List.pairwise_cons.mp (show (a :: rest.map Prod.fst).Pairwise (· < ·) from h)
    by_cases h1 : k < a
    · have : ((k, v) :: (a, g) :: rest).map Prod.fst = k :: a :: rest.map Prod.fst := rfl
      simp only [Memory.write, h1, if_true, Memory.wf, this]
      refine List.pairwise_cons.mpr ⟨fun x hx => ?_, h⟩
      rcases List.mem_cons.mp hx with rfl | hx
      · exact h1
      · exact h1.trans (h'.1 x hx)
    · by_cases h2 : k = a
      · subst h2; simpa [Memory.write, Memory.wf] using h
      · simp only [Memory.write, h1, h2, if_false, Memory.wf, List.map_cons]
        refine List.pairwise_cons.mpr ⟨fun x hx => ?_, ih h'.2⟩
        rcases Memory.mem_keys_write rest k v x hx with rfl | hx
        · omega
        · exact h'.1 x hx

/-- Writes one after another keep the canonical form. -/
theorem Memory.wf_writeAll {m : Memory} (h : m.wf) (ws : List (Nat × Granule)) : (m.writeAll ws).wf := by
  induction ws generalizing m with
  | nil => exact h
  | cons w ws ih => exact ih (Memory.wf_write h w.1 w.2)

/-- The store after power-on is in canonical form. -/
theorem State.reset_mem_wf : State.reset.pool.mem.wf := List.Pairwise.nil

/-- The store after an attempt: the writes of the attempt, and nothing else. -/
@[simp] theorem PoolSide.commit_mem (p : PoolSide) (b : BankNo) (r : RowNo) (ws : List (Nat × Granule))
    (o : Option ErrOutcome) : (p.commit b r ws o).mem = p.mem.writeAll ws := rfl

end Sys2Proof.Machine
end

