-- ==== Sys2Proof/Laws/PerInstr.lean ====
section
/-! SUPPORT. One lemma per command: no word spells it, since no row of the table gives bits (log entry 3). -/

namespace Sys2Proof.Laws.PerInstr

/-- No word of any length spells the command `i`. -/
def Statement (i : Instr) : Prop := ∀ nbits w : Nat, decodeTableWord nbits w ≠ some i

/-- The decoder answers `none` for every word. -/
theorem statement_of_any (i : Instr) : Statement i := fun _ _ h => nomatch h

theorem powerOnReset : Statement .powerOnReset := statement_of_any _
theorem initialisationEnd : Statement .initialisationEnd := statement_of_any _
theorem enableSet : Statement .enableSet := statement_of_any _
theorem enableClear : Statement .enableClear := statement_of_any _
theorem functionLevelReset : Statement .functionLevelReset := statement_of_any _
theorem linkDown : Statement .linkDown := statement_of_any _
theorem registerWrite (offset size : Nat) (value : BitVec 64) : Statement (.registerWrite offset size value) := statement_of_any _
theorem rqTailWrite (ring : RingId) (value : BitVec 32) : Statement (.rqTailWrite ring value) := statement_of_any _
theorem cqHeadWrite (ring : RingId) (value : BitVec 32) : Statement (.cqHeadWrite ring value) := statement_of_any _
theorem eqHeadWrite (value : BitVec 32) : Statement (.eqHeadWrite value) := statement_of_any _
theorem hostReadAnswer (read : Nat) (part : AnswerPart) : Statement (.hostReadAnswer read part) := statement_of_any _
theorem hostReadTimeout (read : Nat) : Statement (.hostReadTimeout read) := statement_of_any _
theorem fetchStart : Statement .fetchStart := statement_of_any _
theorem issueGranuleOperation (slot : SlotNo) : Statement (.issueGranuleOperation slot) := statement_of_any _
theorem readOperation (bank : BankNo) (outcome source : ReadOutcome) : Statement (.readOperation bank outcome source) := statement_of_any _
theorem checkOperation (bank : BankNo) (outcome source : ReadOutcome) : Statement (.checkOperation bank outcome source) := statement_of_any _
theorem writeOperation (bank : BankNo) : Statement (.writeOperation bank) := statement_of_any _
theorem mergeOperation (bank : BankNo) (outcome source : ReadOutcome) : Statement (.mergeOperation bank outcome source) := statement_of_any _
theorem markOperation (bank : BankNo) : Statement (.markOperation bank) := statement_of_any _
theorem stepOperation (bank : BankNo) (source verify : ReadOutcome) : Statement (.stepOperation bank source verify) := statement_of_any _
theorem commandError (bank : BankNo) : Statement (.commandError bank) := statement_of_any _
theorem channelFailureSignal (target : SignalTarget) (channel : ChanNo) : Statement (.channelFailureSignal target channel) := statement_of_any _
theorem outcomeReport (bank : BankNo) : Statement (.outcomeReport bank) := statement_of_any _
theorem migrationStart : Statement .migrationStart := statement_of_any _
theorem scrubTimerExpiry : Statement .scrubTimerExpiry := statement_of_any _
theorem formatTurn : Statement .formatTurn := statement_of_any _
theorem queueCreate : Statement .queueCreate := statement_of_any _
theorem queueDelete : Statement .queueDelete := statement_of_any _
theorem eventQueueSet : Statement .eventQueueSet := statement_of_any _
theorem setParameters : Statement .setParameters := statement_of_any _
theorem poolFormat : Statement .poolFormat := statement_of_any _
theorem mapRead : Statement .mapRead := statement_of_any _
theorem mapLoad : Statement .mapLoad := statement_of_any _
theorem healthRead : Statement .healthRead := statement_of_any _
theorem healthClear : Statement .healthClear := statement_of_any _
theorem migrateRow : Statement .migrateRow := statement_of_any _
theorem statusRead : Statement .statusRead := statement_of_any _
theorem linkUp : Statement .linkUp := statement_of_any _

end Sys2Proof.Laws.PerInstr
end

