-- ==== Sys2Proof/Laws/Pool.lean ====
section
/-! SUPPORT. What the shared operations of the pool side can do: which fields each may change. -/

namespace Sys2Proof.Machine

/-! ## Bank units -/

/-- A bank takes its next operation: only that bank changes. -/
theorem PoolSide.takeNext_eq (p : PoolSide) (b : BankNo) : ∃ x, p.takeNext b = p.setBank b x := by
  unfold PoolSide.takeNext
  dsimp only
  split
  · exact ⟨_, rfl⟩
  · split <;> exact ⟨_, rfl⟩

/-- The bank after it has taken its next operation. -/
theorem PoolSide.takeNext_bank (p : PoolSide) (b : BankNo) : (p.takeNext b).bank b =
    match (p.bank b).nextOp? with
    | some o => { p.bank b with state := .working, waiting := (p.bank b).waiting.erase o, cur := some (p.takeOp b o),
                                openRow := some o.row, retry := 0 }
    | none => if p.bankFailed b then { p.bank b with state := .closed, openRow := none, record := none }
              else { p.bank b with state := .idle } := by
  unfold PoolSide.takeNext
  dsimp only
  cases (p.bank b).nextOp? with
  | some o => simp [PoolSide.beginOp]
  | none => dsimp only; split <;> simp

/-- An operation arrives: only its bank changes. -/
theorem PoolSide.arrive_eq (p : PoolSide) (o : BankOp) : ∃ x, p.arrive o = p.setBank o.bank x := by
  unfold PoolSide.arrive
  dsimp only
  split
  · exact ⟨_, rfl⟩
  · exact ⟨_, rfl⟩

/-- The next STEP is placed: only its bank changes. -/
theorem PoolSide.placeStep_eq (p : PoolSide) (b : BankNo) : ∃ x, p.placeStep b = p.setBank b x := by
  unfold PoolSide.placeStep
  split
  · split
    · exact ⟨p.bank b, by simp [PoolSide.setBank, PoolSide.bank, PoolSide.setBanks]⟩
    · exact p.arrive_eq (stepOp b _)
  · exact ⟨p.bank b, by simp [PoolSide.setBank, PoolSide.bank, PoolSide.setBanks]⟩

/-! ## Offers and room -/

/-- The row's entry changed: the health table alone changes. -/
theorem PoolSide.modifyEntry_eq (p : PoolSide) (b : BankNo) (r : RowNo) (f : HealthEntry → HealthEntry) :
    ∃ t, p.modifyEntry b r f = (p.setTable t).setMigration { p.migration with queue := p.migration.queue } :=
  ⟨p.health.table.map fun e => if e.isFor b r then f e else e, rfl⟩

/-- An offer of an entry changes the health table and the migration queue. -/
theorem PoolSide.offerEntry_eq (p : PoolSide) (b : BankNo) (r : RowNo) :
    ∃ t q, p.offerEntry b r = (p.setTable t).setMigration { p.migration with queue := q } := by
  unfold PoolSide.offerEntry
  split
  · rename_i ha
    obtain ⟨t, h⟩ := PoolSide.modifyEntry_eq
      (p.setMigration { p.migration with queue := p.migration.queue ++ [(b, r)] }) b r
      (fun e => { e.queuedSignal with queued := true })
    exact ⟨t, p.migration.queue ++ [(b, r)], by rw [PoolSide.offer, if_pos ha, h]; rfl⟩
  · obtain ⟨t, h⟩ := p.modifyEntry_eq b r (fun e => { e with queued := true })
    exact ⟨t, p.migration.queue, h⟩
  · obtain ⟨t, h⟩ := p.modifyEntry_eq b r (fun e => { e with queued := false })
    exact ⟨t, p.migration.queue, h⟩
  · exact ⟨p.health.table.filter fun e => !e.isFor b r, p.migration.queue, rfl⟩

/-- Offers at room change the health table and the migration queue. -/
theorem PoolSide.offerRoom_eq (k : Nat) (p : PoolSide) :
    ∃ t q, p.offerRoom k = (p.setTable t).setMigration { p.migration with queue := q } := by
  induction k generalizing p with
  | zero => exact ⟨p.health.table, p.migration.queue, rfl⟩
  | succ k ih =>
    unfold PoolSide.offerRoom
    split
    · exact ⟨p.health.table, p.migration.queue, rfl⟩
    · split
      · exact ⟨p.health.table, p.migration.queue, rfl⟩
      · obtain ⟨t, q, h⟩ := ih (p.offerEntry _ _)
        obtain ⟨t', q', h'⟩ := p.offerEntry_eq ‹HealthEntry›.bank ‹HealthEntry›.row
        exact ⟨t, q, by rw [h, h']; rfl⟩

/-- A room signal changes the health table and the migration queue. -/
theorem PoolSide.signalRoom_eq (p : PoolSide) :
    ∃ t q, p.signalRoom = (p.setTable t).setMigration { p.migration with queue := q } :=
  PoolSide.offerRoom_eq _ p

/-- With no CANDIDATE entry whose flag is clear, a room signal changes nothing. -/
theorem PoolSide.signalRoom_none {p : PoolSide} (h : p.health.nextOffer = none) : p.signalRoom = p := by
  unfold PoolSide.signalRoom
  cases p.health.table.length <;> simp [PoolSide.offerRoom, h]

/-! ## The store under the acts of the controllers -/

/-- What the acts that follow an operation's end at its bank leave: the granules, the reports on their way, the channel
states, the signals on their way and the count of free values. -/
def PoolSide.sameStore (p q : PoolSide) : Prop :=
  q.mem = p.mem ∧ q.reports = p.reports ∧ q.channels = p.channels ∧ q.signals = p.signals ∧ q.freeCount = p.freeCount

theorem PoolSide.sameStore.refl (p : PoolSide) : p.sameStore p := ⟨rfl, rfl, rfl, rfl, rfl⟩

theorem PoolSide.sameStore.trans {p q r : PoolSide} (h : p.sameStore q) (k : q.sameStore r) : p.sameStore r :=
  ⟨k.1.trans h.1, k.2.1.trans h.2.1, k.2.2.1.trans h.2.2.1, k.2.2.2.1.trans h.2.2.2.1, k.2.2.2.2.trans h.2.2.2.2⟩

theorem PoolSide.sameStore_signalRoom (p : PoolSide) : p.sameStore p.signalRoom := by
  obtain ⟨t, q, h⟩ := p.signalRoom_eq; rw [h]; exact ⟨rfl, rfl, rfl, rfl, rfl⟩

theorem PoolSide.sameStore_takeNext (p : PoolSide) (b : BankNo) : p.sameStore (p.takeNext b) := by
  obtain ⟨x, h⟩ := p.takeNext_eq b; rw [h]; exact ⟨rfl, rfl, rfl, rfl, rfl⟩

theorem PoolSide.sameStore_arrive (p : PoolSide) (o : BankOp) : p.sameStore (p.arrive o) := by
  obtain ⟨x, h⟩ := p.arrive_eq o; rw [h]; exact ⟨rfl, rfl, rfl, rfl, rfl⟩

theorem PoolSide.sameStore_placeStep (p : PoolSide) (b : BankNo) : p.sameStore (p.placeStep b) := by
  obtain ⟨x, h⟩ := p.placeStep_eq b; rw [h]; exact ⟨rfl, rfl, rfl, rfl, rfl⟩

theorem Work.sameStore_abandon (w : Work) (i : Fin 4) (s : MigSlot) : w.pool.sameStore (w.abandon i s).pool :=
  PoolSide.sameStore_signalRoom ((w.pool.setSpare s.bank s.target .free).setMigSlot i none)

theorem Work.sameStore_failMigration (w : Work) (i : Fin 4) (s : MigSlot) (r : MigReason) :
    w.pool.sameStore (w.failMigration i s r).pool :=
  PoolSide.sameStore_signalRoom
    (((w.pool.setMigSlot i none).setRecord s.bank none).signalBlocked s.bank s.row)

theorem Work.sameStore_completeMigration (w : Work) (i : Fin 4) (s : MigSlot) :
    w.pool.sameStore (w.completeMigration i s).pool := by
  unfold Work.completeMigration
  cases s.source with
  | none =>
    exact PoolSide.sameStore_signalRoom
      ((((w.pool.setSpare s.bank s.target (.active s.row)).setMigSlot i none).setRecord s.bank none).signalMigrated
        s.bank s.row)
  | some x =>
    exact PoolSide.sameStore_signalRoom
      (((((w.pool.setSpare s.bank s.target (.active s.row)).setSpare s.bank x .retired).setMigSlot i none).setRecord
        s.bank none).signalMigrated s.bank s.row)

theorem Work.sameStore_targetFailure (w : Work) (i : Fin 4) (s : MigSlot) :
    w.pool.sameStore (w.targetFailure i s).pool := by
  unfold Work.targetFailure
  dsimp only
  split
  · exact Work.sameStore_failMigration (w.onPool fun p => p.setSpare s.bank s.target .retired) i s _
  · split
    · exact ⟨rfl, rfl, rfl, rfl, rfl⟩
    · exact Work.sameStore_failMigration (w.onPool fun p => p.setSpare s.bank s.target .retired) i s _

/-- The controller's act on a STEP's report leaves the store. -/
theorem Work.sameStore_stepReport (w : Work) (b : BankNo) (r : StepReport) :
    w.pool.sameStore (w.stepReport b r).pool := by
  unfold Work.stepReport
  split
  · exact .refl _
  · cases r <;> dsimp only
    · split
      · exact w.sameStore_completeMigration _ _
      · split
        · exact w.sameStore_abandon _ _
        · exact ⟨rfl, rfl, rfl, rfl, rfl⟩
    · split
      · exact w.sameStore_abandon _ _
      · exact w.sameStore_targetFailure _ _
    · exact .refl _
    · exact w.sameStore_abandon _ _

/-- The controller's act on a host operation's target failure leaves the store. -/
theorem Work.sameStore_hostTargetFailure (w : Work) (b : BankNo) (r : RowNo) :
    w.pool.sameStore (w.hostTargetFailure b r).pool := by
  unfold Work.hostTargetFailure
  split
  · exact .refl _
  · rename_i i m _
    split
    · refine (w.sameStore_targetFailure i m).trans ?_
      show (w.targetFailure i m).pool.sameStore ((w.targetFailure i m).pool.voidStep b)
      unfold PoolSide.voidStep
      dsimp only
      split
      · exact ⟨rfl, rfl, rfl, rfl, rfl⟩
      · exact .refl _
    · exact .refl _

theorem Work.sameStore_visitEnd (w : Work) (b : BankNo) (r : RowNo) : w.pool.sameStore (w.visitEnd b r).pool := by
  unfold Work.visitEnd
  split
  · exact ⟨rfl, rfl, rfl, rfl, rfl⟩
  · exact .refl _

theorem Work.sameStore_visit (w : Work) : w.pool.sameStore w.visit.pool := by
  unfold Work.visit
  dsimp only
  split
  · exact PoolSide.sameStore.trans ⟨rfl, rfl, rfl, rfl, rfl⟩ (Work.sameStore_visitEnd _ _ _)
  · exact PoolSide.sameStore.trans ⟨rfl, rfl, rfl, rfl, rfl⟩ (PoolSide.sameStore_arrive _ _)

theorem Work.sameStore_rowEnd (w : Work) (c : ScrubRow) : w.pool.sameStore (w.rowEnd c).pool := by
  have h : w.pool.sameStore
      ((w.onPool fun p => p.setScrub { p.scrub with cur := none }).visitEnd c.bank c.row).pool :=
    PoolSide.sameStore.trans ⟨rfl, rfl, rfl, rfl, rfl⟩ (Work.sameStore_visitEnd _ _ _)
  unfold Work.rowEnd
  dsimp only
  split
  · exact h.trans (PoolSide.sameStore.trans ⟨rfl, rfl, rfl, rfl, rfl⟩ (Work.sameStore_visit _))
  · exact h

/-- The scrubber's act on a result leaves the store. -/
theorem Work.sameStore_scrubResult (w : Work) (r : OpResult) (lost : Bool) :
    w.pool.sameStore (w.scrubResult r lost).pool := by
  unfold Work.scrubResult
  split
  · exact .refl _
  · rename_i c _
    have h : w.pool.sameStore (if lost then w.raise (.taintFound c.bank c.row (Fin.ofNat 32 c.next)) else w).pool := by
      cases lost <;> exact .refl _
    dsimp only
    split
    · exact h.trans (Work.sameStore_rowEnd _ _)
    · exact h.trans (PoolSide.sameStore.trans ⟨rfl, rfl, rfl, rfl, rfl⟩ (PoolSide.sameStore_arrive _ _))

theorem Work.sameStore_formatCheck (w : Work) : w.pool.sameStore w.formatCheck.pool := by
  unfold Work.formatCheck
  split
  · split
    · exact ⟨rfl, rfl, rfl, rfl, rfl⟩
    · exact .refl _
  · exact .refl _

/-- Pool control's act on the end of a format write leaves the store. -/
theorem Work.sameStore_formatWriteEnd (w : Work) (b : BankNo) : w.pool.sameStore (w.formatWriteEnd b).pool := by
  unfold Work.formatWriteEnd
  split
  · exact .refl _
  · exact PoolSide.sameStore.trans ⟨rfl, rfl, rfl, rfl, rfl⟩ (Work.sameStore_formatCheck _)

/-- Handing a result back to its issuer leaves the store. -/
theorem Work.sameStore_handBack (w : Work) (e : OpEnd) (lost : Bool) : w.pool.sameStore (w.handBack e lost).pool := by
  unfold Work.handBack
  split
  · exact .refl _
  · exact w.sameStore_formatWriteEnd _
  · exact w.sameStore_scrubResult _ _
  · exact w.sameStore_stepReport _ _

/-! ## Ends of operations -/

/-- The store after the end of an operation other than a STEP: its writes and its report, and nothing else. -/
theorem Work.endOp_store (w : Work) (b : BankNo) (ip : InProgress) (f : Effect) :
    (w.pool.commit b ip.op.row f.writes f.report).sameStore (w.endOp b ip f).pool := by
  unfold Work.endOp
  refine PoolSide.sameStore.trans ?_ (Work.sameStore_handBack _ _ _)
  refine PoolSide.sameStore.trans ?_ (PoolSide.sameStore_takeNext _ b)
  split
  · exact PoolSide.sameStore.trans ⟨rfl, rfl, rfl, rfl, rfl⟩ (Work.sameStore_hostTargetFailure _ b ip.op.row)
  · exact ⟨rfl, rfl, rfl, rfl, rfl⟩

/-- The store after the end of a STEP with a migration: its writes and its report, and nothing else. -/
theorem Work.endStep_store (w : Work) (b : BankNo) (ip : InProgress) (source verify : ReadOutcome) (t : SpareNo)
    (c : Nat) (h : ip.mig = some (t, c)) :
    (w.pool.commit b ip.op.row (w.pool.stepWrites ip t c source) (reportOf source)).sameStore
      (w.endStep b ip source verify).pool := by
  unfold Work.endStep
  simp only [h]
  refine PoolSide.sameStore.trans ?_ (PoolSide.sameStore_placeStep _ b)
  refine PoolSide.sameStore.trans ?_ (PoolSide.sameStore_takeNext _ b)
  exact PoolSide.sameStore.trans ⟨rfl, rfl, rfl, rfl, rfl⟩ (Work.sameStore_stepReport _ b _)

/-- The store after a step is delivered is that of the step. -/
theorem State.deliver_store (s : State) (w : Work) (f : BankNo → Bool) :
    w.pool.sameStore (s.deliver w f).pool := by
  obtain ⟨b, h⟩ := s.deliver_pool w f; rw [h]; exact ⟨rfl, rfl, rfl, rfl, rfl⟩

@[simp] theorem PoolSide.commit_reports (p : PoolSide) (b : BankNo) (r : RowNo) (ws : List (Nat × Granule))
    (o : Option ErrOutcome) : (p.commit b r ws o).reports = p.reports ++ (match o with
      | some e => [{ bank := b, row := r, outcome := e }]
      | none => []) := rfl

end Sys2Proof.Machine
end

