-- ==== Sys2Proof/WellFormed.lean ====
section
/-! DEFINITION. The checks on a command that its types do not make. An ill-formed command still has a meaning (a write
outside the window reaches no register, bytes outside a read are ignored); the checks say which commands the host or
the link can produce. -/

namespace Sys2Proof

/-- A part of an answer fits a host read of at most 512 bytes and is not empty (R198). -/
def AnswerPart.wf : AnswerPart → Bool
  | .data off bytes => decide (0 < bytes.length) && decide (off + bytes.length ≤ Config.maxRead)
  | .completionError => true

/-- A register write starts inside the 4 KiB window, stays inside it, and its value fits its size (R195). -/
def registerWriteWf (offset size : Nat) (value : BitVec 64) : Bool :=
  decide (0 < size) && decide (offset + size ≤ 4096) && decide (value.toNat < 2 ^ (8 * size))

/-- The well-formed commands. -/
def Instr.wf : Instr → Bool
  | .registerWrite offset size value => registerWriteWf offset size value
  | .hostReadAnswer _ part => part.wf
  | .powerOnReset | .initialisationEnd | .enableSet | .enableClear | .functionLevelReset | .linkDown
  | .rqTailWrite _ _ | .cqHeadWrite _ _ | .eqHeadWrite _ | .hostReadTimeout _ | .fetchStart
  | .issueGranuleOperation _ | .readOperation _ _ _ | .checkOperation _ _ _ | .writeOperation _
  | .mergeOperation _ _ _ | .markOperation _ | .stepOperation _ _ _ | .commandError _
  | .channelFailureSignal _ _ | .outcomeReport _ | .migrationStart | .scrubTimerExpiry | .formatTurn
  | .queueCreate | .queueDelete | .eventQueueSet | .setParameters | .poolFormat | .mapRead | .mapLoad
  | .healthRead | .healthClear | .migrateRow | .statusRead | .linkUp => true

end Sys2Proof
end

