-- ==== Sys2Proof/Tests/Slice0.lean ====
section
/-! SUPPORT. Tests: the checks of `WellFormed`, the spec's worked examples, a step of each command on a small state, and,
for each obligation with hypotheses, a state and operands that meet them. -/

set_option maxRecDepth 8192
set_option exponentiation.threshold 512

namespace Sys2Proof.Tests

open Sys2Proof.Machine

/-! ## The checks of WellFormed refuse an ill-formed command -/

theorem test_wf_refuses_empty_write : (Instr.registerWrite 0x10 0 0).wf = false := by decide
theorem test_wf_refuses_write_past_window : (Instr.registerWrite 4093 4 0).wf = false := by decide
theorem test_wf_refuses_value_above_size : (Instr.registerWrite 0x10 4 0x100000000).wf = false := by decide
theorem test_wf_refuses_empty_answer : (Instr.hostReadAnswer 0 (.data 0 [])).wf = false := by decide
theorem test_wf_refuses_answer_past_512 : (Instr.hostReadAnswer 0 (.data 512 [0])).wf = false := by decide
theorem test_wf_takes_write : (Instr.registerWrite 4092 4 0xFFFFFFFF).wf = true := by decide

/-! ## Worked examples of the spec -/

/-- The address map examples of chapter 1. -/
theorem test_address_map_examples :
    (Stride.s512.bankOf 1000000, Stride.s512.rowOf 1000000, Stride.s512.granOf 1000000) = (26, 1, 25)
    ∧ (Stride.s2048.bankOf 1000000, Stride.s2048.rowOf 1000000, Stride.s2048.granOf 1000000) = (142, 1, 9)
    ∧ (Stride.s256.bankOf (2 ^ 35 - 8), Stride.s256.rowOf (2 ^ 35 - 8), Stride.s256.granOf (2 ^ 35 - 8),
        Stride.s256.byteOf (2 ^ 35 - 8)) = (255, 65535, 31, 56)
    ∧ Stride.s512.address 26 1 25 0 = 1000000 := by decide

/-- The taking order example of chapter 2: READ of row 1 granule 2 ends, w3 is taken, not the older w1. -/
theorem test_taking_order_example :
    let op := fun (kind : OpKind) row gran => ({ kind := kind, issuer := .slot 0 1, bank := 26, row := row, gran := gran } : BankOp)
    let w1 := op (.write 0) 9 0
    let w2 := { op .check 40 0 with issuer := .scrub }
    let w3 := op .read 1 3
    let w4 := op (.merge 1 0) 9 1
    let w5 := op .read 1 4
    let x : Bank := { Bank.reset with openRow := some 1, waiting := [w1, w2, w3, w4, w5] }
    x.nextOp? = some w3 ∧ { x with waiting := [w1, w2, w4] }.nextOp? = some w1
      ∧ { x with openRow := some 9, waiting := [w2, w4] }.nextOp? = some w4 := by decide

/-! ## States for the tests -/

/-- The state after a command. -/
def after (c : Instr) (s : State) : State := match exec c s with | .next t => t | .fault _ => s | .refused _ => s

/-- A host read and its answer of zeros. -/
def zeros (n : Nat) : List Byte := List.replicate n 0

/-- Power-on reset with READY 1, a window of 1 MiB from 4,096, and the configuration registers set for RQ0 of 4 places and
CQ0 of 8. -/
def portState : State := State.reset.setHost (State.reset.host.setPort { HostPort.reset with
  ready := true, windowLow := 4096, windowHigh := 0xFFFFF, rqBase := 0x2000, cqBase := 0x3000,
  sizes := 0x80004 })

/-- After ENABLE. -/
def enabled : State := after .enableSet portState

/-- Ring pair 31 beside the configuration pair: RQ31 of 4 places bound to CQ31 of 2, and an event ring of 2 places. -/
def rings : State :=
  enabled.setHost (((enabled.host.setCq 31 (Cq.created 0x5000 2 1 7 true)).setRq 31 (Rq.created 0x4000 4 31 8)).setEq
    (EvRing.created 0x6000 2 5 true))

/-- The same with the pool ONLINE. -/
def online : State := rings.setPool (rings.pool.setControl { state := .online, stride := .s256, cursor := none })

/-- A data request. -/
def request (kind : DataKind) : DataReq :=
  { kind := kind, fence := false, useList := false, id := 7, len := 256, a := 64, b := 4096, host := 8192,
    listCount := 0, pattern := 0x0123456789ABCDEF }

/-- A slot of RQ31 in ISSUING with a request of a kind. -/
def slotOf (kind : DataKind) : Slot := Slot.fresh 0 1 31 (request kind) .issuing

/-- The online state with occupied slots. -/
def withSlots (xs : List Slot) (s : State) : State := s.setHost (s.host.setTracker { s.host.tracker with slots := xs })

/-- A state with bank `b` changed. -/
def withBank (b : BankNo) (f : Bank → Bank) (s : State) : State := s.setPool (s.pool.setBank b (f (s.pool.bank b)))

/-- An operation of slot 0, tag 1, at the last granule of bank 255. -/
def opOf (kind : OpKind) : BankOp := { kind := kind, issuer := .slot 0 1, bank := 255, row := 65535, gran := 31 }

/-- That operation in progress, with a migration target and cursor or none. -/
def progress (kind : OpKind) (mig : Option (SpareNo × Nat)) : InProgress := { op := opOf kind, source := none, mig := mig }

/-- The online state with an operation in progress at bank 255. -/
def working (ip : InProgress) : State :=
  withBank 255 (fun x => { x with state := .working, cur := some ip, openRow := some ip.op.row }) online

/-- A migration slot of the last row of bank 255. -/
def migration (cursor attempt : Nat) : MigSlot :=
  { bank := 255, row := 65535, source := none, target := 0, cursor := cursor, attempt := attempt }

/-- A state with that migration in slot 3, its TARGET spare and its record. -/
def migrating (m : MigSlot) (s : State) : State :=
  s.setPool ((s.pool.setSpare m.bank m.target (.target m.row)).setMig 3 m)

/-- The STEP of that migration in progress. -/
def stepping (m : MigSlot) : State :=
  migrating m (working { op := stepOp 255 65535, source := none, mig := some (m.target, m.cursor) })

/-- A channel FAILED. -/
def failing (c : ChanNo) (s : State) : State := s.setPool (s.pool.setChannels (s.pool.channels.set c .failed))

/-- A health entry of row 9 of bank 5. -/
def entry (state : HealthState) (count : Nat) (queued : Bool) : HealthEntry :=
  { bank := 5, row := 9, count := count, state := state, firstPass := 0, last := .corrected, queued := queued }

/-- A state with a health table and a migration queue. -/
def keeping (table : List HealthEntry) (queue : List (BankNo × RowNo)) (s : State) : State :=
  s.setPool ((s.pool.setTable table).setMigration { s.pool.migration with queue := queue })

/-- A state whose configuration unit holds a command. -/
def holding (c : ConfigCmd) (s : State) : State := s.setHost (s.host.setConfig (.executing 1 c none))

/-- A state with one host read sent, of `n` bytes at 8,192. -/
def reading (owner : Owner) (n : Nat) (s : State) : State := s.setHost (s.host.setPort { s.host.port with
  sent := [{ read := { id := 0, owner := owner, addr := 8192, len := n }, abandoned := false,
             bytes := List.replicate n none }]
  nextRead := 1 })

/-- A state with a fetch of one record of ring `i` in flight. -/
def fetching (i : RingId) (s : State) : State :=
  (fun s : State => s.setHost (s.host.setFetch (some { ring := i, handed := 0, recs := [none] })))
    (reading (.fetch 0) 64 s)

/-! ## One step of each command -/

theorem test_power_on_reset : (after .powerOnReset enabled).readWindow 4 4 = 0 := by decide
theorem test_initialisation_end : (after .initialisationEnd State.reset).readWindow 4 4 = 1 := by decide
theorem test_enable_set_creates_pair :
    (enabled.host.rq 0).size = 4 ∧ (enabled.host.cq 0).size = 8 ∧ enabled.readWindow 4 4 = 3 := by decide
theorem test_enable_set_config_error :
    (after .enableSet (after (.registerWrite 0x20 8 0x2008) portState)).readWindow 4 4 = 5 := by decide
theorem test_enable_clear : (after .enableClear enabled).host.port.windowLow = 4096 := by decide
theorem test_function_level_reset : (after .functionLevelReset enabled).host.port.windowLow = 0 := by decide
theorem test_link_down : (after .linkDown enabled).host.port.linkUp = false := by decide
theorem test_link_up : (after .linkUp (after .linkDown enabled)).host.port.linkUp = true := by decide
theorem test_register_write_high_half :
    (after (.registerWrite 0x1C 4 1) portState).host.port.windowHigh = 0x1000FFFFF := by decide
theorem test_tail_write_of_size_faults : ((after (.rqTailWrite 31 4) rings).host.rq 31).state = .faulted := by decide
theorem test_head_write_past_records_faults :
    ((after (.cqHeadWrite 31 1) rings).host.cq 31).state = .faulted := by decide
theorem test_event_head_write : (after (.eqHeadWrite 2) rings).host.engine.eq.state = .faulted := by decide
theorem test_fetch_start_reads_record :
    (after .fetchStart (after (.rqTailWrite 0 3) enabled)).host.out = [.read 0 0x2000 64] := by decide
theorem test_host_read_timeout_faults_ring :
    ((after (.hostReadTimeout 0) (fetching 31 online)).host.rq 31).state = .faulted := by decide
theorem test_host_read_answer_takes_command :
    (after (.hostReadAnswer 0 (.data 0 ([0x44, 0, 9, 0, 0, 1, 0, 0] ++ zeros 56)))
      (fetching 0 enabled)).host.config = .executing 9 (.poolFormat 256) none := by decide

/-- A completion record by the layout of 12.3: id 9, ring 0, BAD_PARAMETER, head 1, lap 1. -/
theorem test_completion_record_bytes :
    (after .poolFormat (holding (.poolFormat 100) rings)).host.out
      = [.write 0x3000 ([1, 0, 0, 0x26, 0, 0, 1, 0] ++ zeros 24)] := by decide

theorem test_issue_takes_operation :
    ((after (.issueGranuleOperation 0) (withSlots [slotOf .verify] online)).pool.bank 0).openRow = some 0 := by decide
theorem test_read_marks_lost_granule :
    (after (.readOperation 255 .uncorrectable .clean) (working (progress .read none))).pool.mem.read
      (granKey 255 65535 none 31) = some .tainted := by decide
theorem test_check_reports_lost_granule :
    (after (.checkOperation 255 .uncorrectable .clean) (working (progress .check none))).pool.reports
      = [{ bank := 255, row := 65535, outcome := .uncorrectable }] := by decide
theorem test_write_reaches_target_below_cursor :
    (after (.writeOperation 255) (working (progress (.write 5) (some (3, 32))))).pool.mem
      = [(granKey 255 65535 none 31, .valid 5), (granKey 255 65535 (some 3) 31, .valid 5)] := by decide
theorem test_merge_keeps_words_outside_mask :
    (after (.mergeOperation 255 .clean .clean) ((fun s : State => s.setPool (s.pool.setMem
      [(granKey 255 65535 none 31, .valid (BitVec.ofNat 512 (7 + 9 * 2 ^ 64)))]))
      (working (progress (.merge 0x01 (BitVec.ofNat 512 (1 + 2 * 2 ^ 64))) none)))).pool.mem
      = [(granKey 255 65535 none 31, .valid (BitVec.ofNat 512 (1 + 9 * 2 ^ 64)))] := by decide
theorem test_mark_taints :
    (after (.markOperation 255) (working (progress .mark none))).pool.mem.read (granKey 255 65535 none 31)
      = some .tainted := by decide
theorem test_step_retires_target_at_corrected_verify :
    (after (.stepOperation 255 .clean .corrected) (stepping (migration 3 1))).pool.spare 255 0 = .retired
    ∧ (after (.stepOperation 255 .clean .corrected) (stepping (migration 3 1))).pool.spare 255 1 = .target 65535 := by
  decide
theorem test_step_completes_at_granule_31 :
    (after (.stepOperation 255 .clean .clean) (stepping (migration 31 2))).pool.lookup 255 65535 = some 0 := by decide
theorem test_command_error_retries :
    ((after (.commandError 255) (working (progress .read none))).pool.bank 255).retry = 1 := by decide
theorem test_ninth_command_error_fails_channel :
    (after (.commandError 255) (withBank 255 (fun x => { x with state := .retrying, retry := 8 })
      (working (progress .read none)))).pool.channels[15] = .failed := by decide
theorem test_channel_failure_signal_degrades :
    (after (.channelFailureSignal .poolControl 0) ((fun s : State => s.setPool (s.pool.setSignals [(.poolControl, 0)]))
      online)).pool.control.state = .degraded := by decide
theorem test_outcome_report_makes_candidate :
    (after (.outcomeReport 5) ((fun s : State => s.setPool (s.pool.setReports
      [{ bank := 5, row := 9, outcome := .corrected }])) (keeping [entry .watch 3 false] [] online))).pool.migration.queue
      = [(5, 9)] := by decide
theorem test_migration_start_takes_spare :
    (after .migrationStart (keeping [] [(5, 9)] online)).pool.spare 5 0 = .target 9 := by decide
theorem test_scrub_timer_visits :
    (after .scrubTimerExpiry ((fun s : State => s.setPool (s.pool.setScrub
      { s.pool.scrub with interval := 1, running := true, bank := 255 })) online)).pool.scrub.row = 1 := by decide
theorem test_format_turn_places_write :
    ((after .formatTurn (after .poolFormat (holding (.poolFormat 2048) rings))).pool.bank 0).cur.isSome
      = true := by decide
theorem test_queue_create :
    ((after .queueCreate (holding (.queueCreate 2 5 2 0x7000 0 0) rings)).host.cq 5).size = 2 := by decide
theorem test_queue_delete_in_use :
    (after .queueDelete (holding (.queueDelete 2 31 false) rings)).host.out
      = [.write 0x3000 ([1, 0, 0, 0x21, 0, 0, 1, 0] ++ zeros 24)] := by decide
theorem test_event_queue_set_removes :
    (after .eventQueueSet (holding (.eventQueueSet 0 0 0 false) rings)).host.engine.eq.state = .absent := by decide
theorem test_set_parameters :
    (after .setParameters (holding (.setParameters 10 3 0xFF) online)).pool.scrub.running = true := by decide
theorem test_pool_format : (after .poolFormat (holding (.poolFormat 512) rings)).pool.control.state = .formatting := by
  decide
theorem test_map_entry_bytes :
    spareEntry 255 31 (.active 258) = some [255, 0, 31, 1, 2, 1, 0, 0] ∧ spareEntry 255 31 (.target 258) = none := by
  decide
theorem test_map_read_without_capacity :
    ((after .mapRead (holding (.mapRead 0 0) enabled)).host.out.map fun | .write a _ => a | _ => 0) = [0x3000] := by
  decide
theorem test_map_load_wrong_state :
    (after .mapLoad (holding (.mapLoad 1 8192) online)).host.out
      = [.write 0x3000 ([1, 0, 0, 0x22, 0, 0, 1, 0] ++ zeros 24)] := by decide
theorem test_health_read_writes_entry :
    (after .healthRead (holding (.healthRead 1 8192) (keeping [entry .candidate 3 true] [] rings))).host.out.head?
      = some (.write 8192 ([5, 0, 9, 0, 3, 1, 1, 1] ++ zeros 8)) := by decide
theorem test_health_clear_keeps_candidates :
    (after .healthClear (holding .healthClear (keeping [entry .blocked 3 false, entry .candidate 3 true] []
      rings))).pool.health.table = [entry .candidate 3 true] := by decide
theorem test_migrate_row :
    (after .migrateRow (holding (.migrateRow 255 65535) online)).pool.migration.queue = [(255, 65535)] := by decide
theorem test_status_block_head : (statusBlock (failing 15 online)).take 12 = [2, 0, 0, 0x80, 0, 1, 0, 0, 0, 0, 0, 0] := by
  decide
theorem test_status_read_outside_window :
    (after .statusRead (holding (.statusRead 0xFFFC1) online)).host.out
      = [.write 0x3000 ([1, 0, 0, 3, 0, 0, 1, 0] ++ zeros 24)] := by decide

/-- R61, R79: a start in a FAILED channel whose bank carries on a first attempt leaves its record there until the bank is
CLOSED. -/
theorem test_migrationStart_in_failed_channel :
    let p := (after .migrationStart (failing (bankChannel 255) (keeping [] [(255, 9)] (working (progress .check none))))).pool
    (p.bank 255).record = some { row := 9, source := none, target := 0, cursor := 0 } ∧ p.migration.slots[0] = none
    ∧ (((p.clearCur 255).takeNext 255).bank 255).record = none := by decide

/-- No word spells a command: the table gives no row bits. -/
theorem test_no_word_decodes : decodeTableWord 32 0x44 = none := by decide

/-! ## States and operands that meet the hypotheses of the obligations

Each theorem names its obligation and shows the hypotheses of its clauses together, at a boundary value of what a clause
ranges over. -/

theorem witness_StepRunsFrontCommand :
    (State.reset.setPending [.fetchStart, .linkDown]).pending = .fetchStart :: [.linkDown] ∧ State.reset.pending = [] := by
  decide

/-- A COPY slot whose destination granule 4, the last, is ready to be marked. -/
def readyCopy : Slot := { slotOf .copy with copy := { source := 4, kept := [], ready := [(4, .mark)], done := 3 } }

/-- The first and the last address; slots that offer the last READ of a range, a COPY source and a COPY destination. -/
theorem witness_AddressDecomposition :
    (0 < 2 ^ 35 ∧ 2 ^ 35 - 1 < 2 ^ 35 ∧ ¬2 ^ 35 < 2 ^ 35)
    ∧ (∃ o, { slotOf .read with next := some 3 }.nextOp? .s256 = some o)
    ∧ (slotOf .copy).copy.ready = [] ∧ (∃ o, (slotOf .copy).nextOp? .s256 = some o)
    ∧ readyCopy.copy.ready = (4, .mark) :: [] ∧ ∃ o, readyCopy.nextOp? .s256 = some o :=
  ⟨by decide, ⟨_, rfl⟩, rfl, ⟨_, rfl⟩, rfl, ⟨_, rfl⟩⟩

theorem witness_AddressMapOneToOne : 2 ^ 35 - 1 < 2 ^ 35 ∧ 0 < 64 ∧ 63 < 64 := by decide

/-- The four checks pass at sizes 4 and 8 in a window of exactly the rings' bytes; each fails at the value beside. -/
theorem witness_EnableCreatesConfigurationPair :
    portState.host.port.linkUp = true ∧ portState.host.port.ready = true ∧ portState.host.port.enable = false
    ∧ (let p := { portState.host.port with windowLow := 0x2000, windowHigh := 0x30FF }
       let n := p.sizes.toNat % 8192
       let m := p.sizes.toNat / 65536 % 8192
       (2 ≤ n ∧ n ≤ 4096 ∧ 2 ≤ m ∧ m ≤ 4096) ∧ (p.rqBase.toNat % 64 = 0 ∧ p.cqBase.toNat % 64 = 0)
        ∧ (p.windowLow.toNat ≤ p.rqBase.toNat ∧ p.rqBase.toNat + 64 * n - 1 ≤ p.windowHigh.toNat)
        ∧ (p.windowLow.toNat ≤ p.cqBase.toNat ∧ p.cqBase.toNat + 32 * m - 1 ≤ p.windowHigh.toNat)
        ∧ ¬p.cqBase.toNat + 32 * m - 1 ≤ p.windowHigh.toNat - 1) := by decide

theorem witness_PortResetEffects :
    enabled.host.port.linkUp = true ∧ enabled.host.port.ready = true ∧ enabled.host.port.enable = true
    ∧ exec .enableClear enabled = .next (after .enableClear enabled)
    ∧ exec .functionLevelReset enabled = .next (after .functionLevelReset enabled)
    ∧ exec .linkDown enabled = .next (after .linkDown enabled)
    ∧ exec .linkUp (after .linkDown enabled) = .next (after .linkUp (after .linkDown enabled))
    ∧ (after .linkDown enabled).host.port.linkUp = false := ⟨rfl, rfl, rfl, rfl, rfl, rfl, rfl, rfl⟩

theorem witness_PortResetRegisters :
    enabled.host.port.linkUp = true ∧ enabled.host.port.ready = true ∧ enabled.host.port.enable = true
    ∧ (after .linkDown enabled).host.port.linkUp = false := ⟨rfl, rfl, rfl, rfl⟩

theorem witness_ConfigurationRegisterWrites :
    portState.host.port.linkUp = true ∧ portState.host.port.enable = false
    ∧ 0x10 ∈ [0x10, 0x18, 0x20, 0x28, 0x30] ∧ 0x30 ∈ [0x10, 0x18, 0x20, 0x28, 0x30] := by decide

/-- An access for each clause: sizes, alignment, the registers named, the first and last offsets of the gaps. -/
theorem witness_WindowAccesses :
    ((2 ≠ 4 ∧ 2 ≠ 8) ∧ 0x12 % 4 ≠ 0) ∧ (0x038 ≤ 0x038 ∧ 0x0FC + 4 ≤ 0x100) ∧ 0x204 ≤ 0x204
    ∧ (0x010 ≤ 0x034 ∧ 0x034 + 4 ≤ 0x038 ∧ enabled.host.port.enable = true) ∧ State.reset.host.port.ready = false := by
  decide

theorem witness_TailWrite :
    rings.host.port.linkUp = true ∧ (rings.host.rq 30).state ≠ .active ∧ (rings.host.rq 31).state = .active
    ∧ (rings.host.rq 31).size ≤ (4 : BitVec 32).toNat ∧ (3 : BitVec 32).toNat < (rings.host.rq 31).size := by decide

/-- CQ31 with one record unconsumed at place 1 of 2: a write of 0 consumes it, a write of 1 nothing. -/
def oneRecord : State := rings.setHost (rings.host.setCq 31 { rings.host.cq 31 with head := 1, unconsumed := 1 })

theorem witness_CompletionHeadWrite :
    oneRecord.host.port.linkUp = true ∧ (oneRecord.host.cq 31).head < (oneRecord.host.cq 31).size
    ∧ (oneRecord.host.cq 31).state = .active
    ∧ (0 + (oneRecord.host.cq 31).size - (oneRecord.host.cq 31).head ≤ (oneRecord.host.cq 31).unconsumed)
    ∧ (oneRecord.host.cq 31).size ≤ 2 ∧ (rings.host.cq 31).unconsumed < 1
    ∧ ((rings.host.cq 30).state ≠ .active ∧ ¬(rings.host.cq 30).head < (rings.host.cq 30).size) := by decide

/-- The event ring full, with one event pending, and the same ring empty. -/
def fullEvents : State :=
  rings.setHost ((rings.host.setEq { rings.host.engine.eq with unconsumed := 2 }).setEvents
    { rings.host.events with entries := [{ event := .channelFailed 0, count := 1 }] })

/-- `n` pending events with keys of their own. -/
def manyEvents (n : Nat) : List EventEntry := (List.range n).map fun i => { event := .taintFound 0 (Fin.ofNat 65536 i) 0, count := 255 }

/-- A host side with `n` pending events, and the event ring at its last place with `free` places. -/
def eventsAt (n free : Nat) : HostSide :=
  (rings.host.setEq { rings.host.engine.eq with tail := 1, lap := false, unconsumed := 2 - free }).setEvents
    { rings.host.events with entries := manyEvents n, overflow := true }

/-- A raise: of a disabled kind, of a key pending with count 255, of a new key with 63 and with 64 pending, on a ring that is
ABSENT, full, with one and with two places free, and with its next place outside the window. -/
theorem witness_EventHeadWrite_raise :
    (let h := eventsAt 63 1
     let g := h.setEvents { h.events with entries := manyEvents 63 ++ [{ event := .channelFailed 0, count := 1 }] }
     h.events.enables.getLsbD (Event.code (.channelFailed 0) - 1) = true
     ∧ (h.setEvents { h.events with enables := 0xBD }).events.enables.getLsbD (Event.code (.channelFailed 0) - 1) = false
     ∧ h.events.hasKey (.taintFound 0 62 0) = true ∧ h.events.hasKey (.channelFailed 0) = false
     ∧ h.events.entries.length < 64 ∧ 64 ≤ (eventsAt 64 1).events.entries.length
     ∧ (h.setEq EvRing.absent).engine.eq.state ≠ .active ∧ (eventsAt 63 0).engine.eq.size ≤ (eventsAt 63 0).engine.eq.unconsumed
     ∧ h.engine.eq.state = .active ∧ h.engine.eq.tail < h.engine.eq.size ∧ h.engine.eq.unconsumed < h.engine.eq.size
     ∧ (∀ j, j < 2 → g.port.inWindow (g.engine.eq.base + 32 * ((g.engine.eq.tail + j) % g.engine.eq.size)) 32 = true)
     ∧ (h.setPort { h.port with windowHigh := 0x603E }).port.inWindow (0x6000 + 32 * 1) 32 = false) := by decide

theorem witness_EventHeadWrite :
    (let h := eventsAt 3 0
     let g := h.setEq { h.engine.eq with head := 0, unconsumed := 2 - 1, armed := true }
     let k := 0 + h.engine.eq.size - 1
     h.port.linkUp = true ∧ h.engine.eq.head < h.engine.eq.size ∧ h.engine.eq.state = .active ∧ 0 < k
     ∧ k ≤ h.engine.eq.unconsumed ∧ h.engine.eq.unconsumed ≤ h.engine.eq.size ∧ h.engine.eq.tail < h.engine.eq.size
     ∧ h.events.entries ≠ []
     ∧ (∀ j, j < 1 → g.port.inWindow (g.engine.eq.base + 32 * ((g.engine.eq.tail + j) % g.engine.eq.size)) 32 = true)
     ∧ (h.setPort { h.port with windowHigh := 0x603E }).port.inWindow (0x6000 + 32 * 1) 32 = false)
    ∧ fullEvents.host.port.linkUp = true ∧ fullEvents.host.engine.eq.head < fullEvents.host.engine.eq.size
    ∧ fullEvents.host.engine.eq.state = .active ∧ 1 < fullEvents.host.engine.eq.size
    ∧ 0 < 1 - fullEvents.host.engine.eq.head ∧ 1 - fullEvents.host.engine.eq.head ≤ fullEvents.host.engine.eq.unconsumed
    ∧ fullEvents.host.engine.eq.unconsumed = fullEvents.host.engine.eq.size
    ∧ fullEvents.host.events.entries = [{ event := .channelFailed 0, count := 1 }]
    ∧ fullEvents.host.port.inWindow (0x6000 + 32 * 0) 32 = true
    ∧ rings.host.events.entries = [] ∧ rings.host.engine.eq.state = .active ∧ rings.host.engine.eq.unconsumed < 1 := by
  decide

theorem witness_CompletionHandOver :
    ((rings.host.cq (rings.host.rq 31).cq).state = .active ∧ rings.host.port.windowLow.toNat ≤ 0x5000
      ∧ 0x5000 + 31 ≤ rings.host.port.windowHigh.toNat)
    ∧ ((rings.host.setCq 31 { rings.host.cq 31 with base := 0x100000 }).cq 31).state = .active
    ∧ ¬0x100000 + 31 ≤ rings.host.port.windowHigh.toNat
    ∧ ((rings.host.setCq 31 { rings.host.cq 31 with state := .faulted }).cq 31).state = .faulted := by decide

/-- RQ0 and RQ31 with pending records; in the second state RQ0 has none. -/
def bothPending : State := after (.rqTailWrite 31 3) (after (.rqTailWrite 0 1) online)

def dataPending : State := after (.rqTailWrite 31 3) online

theorem witness_ArbiterChoice :
    bothPending.host.rq0Eligible = true ∧ dataPending.host.rq0Eligible = false ∧ rings.host.rq0Eligible = false := by
  decide

theorem dataPending_served : dataPending.host.served = some 31 := by
  have h0 : dataPending.host.rq0Eligible = false := by decide
  have h1 : dataPending.host.canFetch 31 = true := by decide
  have h2 : 0 < dataPending.host.tracker.reservable := by
    have ht : dataPending.host.tracker = Tracker.reset := rfl
    have : Tracker.reset.availableSlots = List.finRange 256 := by
      rw [Tracker.availableSlots, List.filter_eq_self]
      intro n _
      simp [Tracker.available, Tracker.slot?, Tracker.reset]
    rw [ht, Tracker.reservable, this]
    decide
  have h3 : ∀ n : RingId, 0 < n → n < 31 → dataPending.host.canFetch n = false := by decide
  have h4 : dataPending.host.engine.position = 0 := rfl
  rw [HostSide.served, h0, h4]
  simp only [Bool.false_eq_true, if_false]
  rw [show searchOrder 0 = (List.finRange 32).filter (fun n => 0 < n) by decide]
  refine List.find?_eq_some_iff_append.mpr ⟨by simp [HostSide.dataEligible, h1, h2],
    ((List.finRange 32).filter fun n => 0 < n ∧ n < 31), [], by decide, ?_⟩
  intro n hn
  simp only [List.mem_filter, decide_eq_true_eq] at hn
  simp [HostSide.dataEligible, h3 n hn.2.1 hn.2.2]

theorem witness_FetchStartReserves :
    bothPending.host.engine.fetch = none ∧ bothPending.host.served = some 0
    ∧ (∀ x ∈ (bothPending.host.rq 0).fetchReads 1, bothPending.host.port.inWindow x.2.1 x.2.2 = true)
    ∧ dataPending.host.engine.fetch = none ∧ dataPending.host.served = some 31
    ∧ (∀ x ∈ (dataPending.host.rq 31).fetchReads 2, dataPending.host.port.inWindow x.2.1 x.2.2 = true)
    ∧ dataPending.host.port.sent.length + ((dataPending.host.rq 31).fetchReads 2).length ≤ 128
    ∧ (let r : Rq := { rings.host.rq 31 with head := 3 }
       r.head < r.size ∧ 4 ≤ r.size ∧ ∃ x y, r.fetchReads 4 = [x] ++ y :: []) :=
  ⟨rfl, by decide, by decide, rfl, dataPending_served, by decide, by decide, by decide, by decide, _, _, rfl⟩

theorem rings_quiescent : rings.host.quiescent := ⟨by decide, fun _ _ _ h => nomatch h⟩

theorem online_quiescent : online.host.quiescent := rings_quiescent

/-- With everything ABSENT and ENABLE 0 nothing is promised. -/
theorem reset_creditSafe : State.reset.host.creditSafe :=
  ⟨by decide, by decide, by decide, by decide, by decide,
    ⟨(fun _ h => nomatch h), rfl, Nat.zero_le _⟩, fun h => absurd rfl h, (fun _ _ _ h => nomatch h),
    fun _ => ⟨by decide, rfl, rfl, rfl⟩⟩

/-- The configuration pair after ENABLE, a command of RQ0 held and its completion promised. -/
theorem held_creditSafe : ((holding (.poolFormat 256) enabled).host.setCq 0
    { enabled.host.cq 0 with reserved := 1 }).creditSafe :=
  ⟨by decide, by decide, by decide, (fun _ h => nomatch h), by decide,
    ⟨(fun _ h => nomatch h), rfl, Nat.zero_le _⟩, fun _ => by decide, (fun _ _ _ h => nomatch h), fun h => nomatch h⟩

theorem witness_CreditNeverExceeded :
    State.reset.host.creditSafe ∧ exec .linkDown State.reset = .next (after .linkDown State.reset) ∧ (∀ n, (rings.host.cq n).state = .active → (rings.host.cq n).unconsumed + (rings.host.cq n).reserved
      ≤ (rings.host.cq n).size) ∧ rings.host.quiescent
    ∧ exec (.cqHeadWrite 31 1) rings = .next (after (.cqHeadWrite 31 1) rings)
    ∧ exec .fetchStart rings = .next (after .fetchStart rings) :=
  ⟨reset_creditSafe, rfl, by decide, rings_quiescent, rfl, rfl⟩

/-! ### Host reads and records -/

/-- The last byte of a read of 64 is still missing after a part of 63. -/
theorem witness_AnswerPartIsKept :
    ∃ r, (fetching 0 enabled).host.port.sentRead? 0 = some r ∧ r.bytes[63]? = some none ∧ 0 + (zeros 63).length ≤ 63
      ∧ (fetching 0 enabled).host.port.sentRead? 1 = none := ⟨_, rfl, rfl, by decide, rfl⟩

/-- Port reset has abandoned the fetch's read. -/
theorem witness_AbandonedReadFreesItsPlace :
    ∃ r, (after .enableClear (fetching 0 enabled)).host.port.sentRead? 0 = some r ∧ r.abandoned = true
      ∧ (after .enableClear (fetching 0 enabled)).host.port.waiting = [] ∧ (zeros 64).length = r.bytes.length :=
  ⟨_, rfl, rfl, rfl, rfl⟩

/-- A record of RQ0 of a configuration kind, and one of none. -/
theorem witness_ConfigurationRecordIsTaken :
    (∃ r, (fetching 0 enabled).host.port.sent = [{ read := r, abandoned := false, bytes := List.replicate 64 none }]
      ∧ r.owner = .fetch 0) ∧ (fetching 0 enabled).host.port.waiting = [] ∧ (0x4A :: zeros 63).length = 64
    ∧ (fetching 0 enabled).host.engine.fetch = some { ring := 0, handed := 0, recs := [none] }
    ∧ (fetching 0 enabled).host.config = .idle ∧ (fetching 0 enabled).host.quiescent
    ∧ configCmdOf? (blockOfBytes (0x4A :: zeros 63)) = some (.statusRead 0)
    ∧ configCmdOf? (blockOfBytes (0x4B :: zeros 63)) = none :=
  ⟨⟨_, rfl, rfl⟩, rfl, rfl, rfl, rfl, ⟨by decide, fun _ _ _ h => nomatch h⟩, by decide, by decide⟩

/-- Records of the first and the last kind of each queue. -/
theorem witness_RecordFields :
    ((zeros 64).length = 64 ∧ 56 + 8 ≤ 64)
    ∧ ∀ k ∈ [0x01, 0x05, 0x40, 0x4A], (k :: zeros 63 : List Byte).length = 64
      ∧ bytesToNat (((k :: zeros 63).drop 0).take 1) = k.toNat := by decide

/-- A request for each refusal of intake, in the order of the checks, and one that passes at the greatest length. -/
theorem witness_IntakeChecks :
    let t := Tracker.reset
    let big := { request .read with len := 16777216, a := 2 ^ 35 - 16777216 }
    big.refusal? .online t 31 = none ∧ big.refusal? .offline t 31 = some .poolNotReady
    ∧ { big with a := 2 ^ 35 - 16777208 }.refusal? .online t 31 = some .badRange
    ∧ { request .copy with b := 312 }.refusal? .online t 31 = some .overlap
    ∧ { request .copy with b := 320 }.refusal? .online t 31 = none
    ∧ { request .read with useList := true, listCount := 257 }.refusal? .online t 31 = some .badList
    ∧ { request .fill with useList := true, listCount := 257 }.refusal? .online t 31 = none
    ∧ (request .read).refusal? .online { t with slots := [slotOf .fill] } 31 = some .duplicateId
    ∧ (request .read).refusal? .online { t with slots := [slotOf .fill] } 30 = none := by decide

/-- A FILL of 256 bytes at address 64 as a record. -/
def fillRecord : List Byte := [4, 0, 7, 0, 0, 1, 0, 0, 64] ++ zeros 55

/-- Three records of RQ31 in flight from the second on: the bytes of the third have come, those of the fourth have not; a
read of 64 bytes for record `k` of the fetch. -/
def threeRecords (k : Nat) : State :=
  (fun s : State => s.setHost (s.host.setFetch (some { ring := 31, handed := 1, recs := [none, some 0, none] })))
    (reading (.fetch k) 64 online)

/-- The next record arrives, with one behind it and one missing; the missing one arrives before its turn; records refused and
accepted, one with a list, a WRITE and one behind a fence. -/
theorem witness_DataRecordOccupiesSlot :
    let s := threeRecords 1
    let f : Fetch := { ring := 31, handed := 1, recs := [none, some 0, none] }
    let list := { request .read with useList := true, listCount := 2 }
    (∃ r, s.host.port.sentRead? r.id = some { read := r, abandoned := false, bytes := List.replicate (zeros 64).length none }
      ∧ r.owner = .fetch f.handed)
    ∧ s.host.engine.fetch = some f ∧ f.ring ≠ 0 ∧ s.host.quiescent ∧ (zeros 64).length = 64 * 1
    ∧ f.recs = List.replicate 1 none ++ [(0 : Block)].map some ++ [none] ∧ ([none] : List (Option Block)).head? = some none
    ∧ (fetching 31 online).host.engine.fetch = some { ring := 31, handed := 0, recs := List.replicate 1 none ++ [].map some ++ [] }
    ∧ (∃ r, (threeRecords 3).host.port.sentRead? r.id
        = some { read := r, abandoned := false, bytes := List.replicate (zeros 64).length none }
      ∧ r.owner = .fetch (f.handed + 1 + 1)) ∧ f.recs = none :: [some 0, none]
    ∧ dataReqOf? (blockOfBytes (6 :: zeros 63)) = none
    ∧ (∃ q, dataReqOf? (blockOfBytes (1 :: zeros 63)) = some q
      ∧ q.refusal? .online s.host.tracker 31 = some .badRange)
    ∧ (∃ q, dataReqOf? (blockOfBytes fillRecord) = some q ∧ q.kind ≠ .write ∧ q.useList = false
      ∧ q.refusal? .online s.host.tracker 31 = none)
    ∧ s.host.tracker.slot? 0 = none ∧ s.host.tracker.outstanding[0] = 0
    ∧ (∀ m : SlotNo, m < 0 → s.host.tracker.slot? m ≠ none)
    ∧ (list.refusal? .online s.host.tracker 31 = none
      ∧ s.host.port.sent.length + (Slot.fresh 0 1 31 list .issuing).listReads.length ≤ 128
      ∧ ∀ z ∈ (Slot.fresh 0 1 31 list .issuing).listReads, s.host.port.inWindow z.2.1 z.2.2 = true)
    ∧ ((request .write).refusal? .online s.host.tracker 31 = none
      ∧ s.host.port.sent.length
        + ((List.range (min 16 (request .write).count)).flatMap (slotOf .write).dataReads).length ≤ 128
      ∧ ∀ z ∈ (List.range (min 16 (request .write).count)).flatMap (slotOf .write).dataReads,
        s.host.port.inWindow z.2.1 z.2.2 = true)
    ∧ ({ request .read with fence := true }.fence = true ∧ ∃ x ∈ (withSlots [slotOf .fill] s).host.tracker.slots, x.ring = 31) :=
  ⟨⟨{ id := 0, owner := .fetch 1, addr := 8192, len := 64 }, rfl, rfl⟩, rfl, by decide, online_quiescent, rfl, rfl, rfl, rfl,
    ⟨{ id := 0, owner := .fetch 3, addr := 8192, len := 64 }, rfl, rfl⟩, rfl, by decide,
    ⟨{ request .read with id := 0, len := 0, a := 0, b := 0, host := 0, pattern := 0 }, by decide, by decide⟩,
    ⟨{ request .fill with b := 0, host := 0, pattern := 0 }, by decide, by decide, by decide, by decide⟩, rfl, by decide,
    fun m h => absurd h (by simp), by decide, by decide, by decide⟩

theorem witness_FetchFailure :
    let s := fetching 31 ((fun s : State => s.setHost (s.host.setEq EvRing.absent)) online)
    (∃ r, s.host.port.sentRead? 0 = some r ∧ r.abandoned = false ∧ r.read.owner = .fetch 0)
    ∧ s.host.engine.fetch = some { ring := 31, handed := 0, recs := [none] } ∧ s.host.quiescent
    ∧ s.host.engine.eq.state = .absent :=
  ⟨⟨_, rfl, rfl, rfl⟩, rfl, online_quiescent, rfl⟩

theorem quiescent_withSlots {s : State} {xs : List Slot}
    (h : ∀ x ∈ xs, x.state ≠ .completing ∧ (x.state = .awaiting → x.ended ≠ x.issued))
    (hc : ∀ id ring k, s.host.config ≠ .drainWait id ring k) : (withSlots xs s).host.quiescent := ⟨h, hc⟩

theorem witness_WriteDataFailure :
    let x := { slotOf .write with issued := 2, ended := 1 }
    let s := reading (.slotData 0 2 0) 64 (withSlots [x] online)
    (∃ r, s.host.port.sentRead? 0 = some r ∧ r.abandoned = false ∧ r.read.owner = .slotData 0 2 0)
    ∧ s.host.tracker.safe ∧ s.host.quiescent ∧ s.host.tracker.slot? 0 = some x ∧ x.hostAccess = false
    ∧ x.ended ≠ x.issued :=
  ⟨⟨_, rfl, rfl, rfl⟩, by decide, quiescent_withSlots (by decide) (fun _ _ _ h => nomatch h), rfl, rfl, by decide⟩

/-- A READ of 256 bytes over a list of entries of 8 and 248 bytes. -/
def listBytes : List Byte :=
  [0, 0x20, 0, 0, 0, 0, 0, 0, 8, 0, 0, 0, 0, 0, 0, 0] ++ [0, 0x30, 0, 0, 0, 0, 0, 0, 248, 0, 0, 0, 0, 0, 0, 0]

theorem witness_BufferListArrives :
    let x := { slotOf .read with state := .loadingList, req := { request .read with useList := true, listCount := 2 } }
    let y := { x with req := { x.req with kind := .write } }
    let s := reading (.slotList 0 0) listBytes.length (withSlots [x] online)
    let reads := (List.range (min 16 y.req.count)).flatMap
      { y with state := .issuing, list := listEntries 2 listBytes }.dataReads
    (reads.length < 128 ∧ (∀ z ∈ reads, s.host.port.inWindow z.2.1 z.2.2 = true) ∧ y.staging = [] ∧ y.askNext = 0)
    ∧ (x.aborted = false ∧ x.hostAccess = false ∧ x.issued = x.ended
      ∧ ¬((listEntries 2 (zeros 32)).map (·.len)).sum = x.req.len) ∧ (∃ r, s.host.port.sent = [{ read := r, abandoned := false, bytes := List.replicate listBytes.length none }]
      ∧ r.owner = .slotList 0 0) ∧ s.host.port.waiting = [] ∧ s.host.quiescent ∧ s.host.tracker.slots = [x] ∧ x.num = 0
    ∧ x.req.kind = .read ∧ x.listPieces = [] ∧ listBytes.length = 16 * x.req.listCount ∧ 0 < x.req.listCount
    ∧ (∀ e ∈ listEntries x.req.listCount listBytes, e.len ≠ 0 ∧ e.len % 8 = 0)
    ∧ ((listEntries x.req.listCount listBytes).map (·.len)).sum = x.req.len :=
  ⟨by decide, by decide, ⟨_, rfl, rfl⟩, rfl, quiescent_withSlots (by decide) (fun _ _ _ h => nomatch h), rfl, rfl, rfl, rfl,
    rfl, by decide, by decide, by decide⟩

/-! ### Requests, slots and issue -/

/-- A range that begins and ends inside a granule, and one that is one whole granule. -/
theorem witness_GranulesOfARange :
    (56 % 8 = 0 ∧ 16 % 8 = 0 ∧ 0 < 16 ∧ touchedCount 56 16 = 2 ∧ touchedWhole 56 16 0 = false)
    ∧ (64 % 8 = 0 ∧ touchedCount 64 64 = 1 ∧ touchedWhole 64 64 0 = true) := by decide

/-- A WRITE slot with 64 of its bytes staged for granule 0. -/
def stagedWrite : Slot := { slotOf .write with staging := [{ gran := 0, pieces := [{ offset := 0, bytes := zeros 64 }] }] }

/-- A COPY slot whose first source granule has ended so; it alone feeds destination granule 0. -/
def keptCopy (result : OpResult) : Slot :=
  { slotOf .copy with copy := { source := 1, kept := [{ gran := 0, result := result, data := 5, feeds := [0] }], ready := [],
                                done := 0 } }

/-- A WRITE whose granule is not staged, staged in part and staged whole; a COPY with a destination operation ready, with its
last source left and with none; a destination granule whose source granule has not ended, failed, was TAINTED and was read. -/
theorem witness_OfferedOperation_write_copy :
    (slotOf .write).next = some 0 ∧ (slotOf .write).req.kind = .write ∧ (∀ z ∈ (slotOf .write).staging, z.gran ≠ 0)
    ∧ (∃ z, stagedWrite.staging = [] ++ z :: [] ∧ z.gran = 0 ∧ (z.pieces.flatMap (·.bytes)).length
        = min (64 + 256) (64 + 64) - max 64 64 ∧ max 64 64 < 64 + 64)
    ∧ readyCopy.copy.ready = (4, .mark) :: [] ∧ readyCopy.req.kind = .copy
    ∧ { readyCopy with copy := { readyCopy.copy with source := 3, ready := [] } }.copy.source < readyCopy.req.count
    ∧ readyCopy.req.count ≤ readyCopy.copy.source
    ∧ ((request .copy).a % 8 = 0 ∧ (request .copy).b % 8 = 0 ∧ (request .copy).len % 8 = 0 ∧ 3 < (request .copy).destCount)
    ∧ (request .copy).feeders 0 = [0] ∧ (slotOf .copy).copy.kept = []
    ∧ (∃ z ∈ (keptCopy .channelFailed).copy.kept, z.gran ∈ (request .copy).feeders 0 ∧ z.result = .channelFailed)
    ∧ (∃ z ∈ (keptCopy .tainted).copy.kept, z.gran ∈ (request .copy).feeders 0 ∧ z.result = .tainted)
    ∧ (∀ z ∈ (keptCopy .ok).copy.kept, z.result = .ok)
    ∧ (request .copy).b ≤ ((request .copy).b / 64 + 0) * 64 + 8 * 7
    ∧ ∃ z, (keptCopy .ok).copy.kept = [] ++ z :: [] ∧ z.gran = (64 + 8 * 7) / 64 - 64 / 64 :=
  ⟨rfl, rfl, by decide, ⟨_, rfl, rfl, by decide, by decide⟩, rfl, rfl, by decide, by decide, by decide, by decide, rfl,
    by decide, by decide, by decide, by decide, _, rfl, by decide⟩

theorem witness_OfferedOperation :
    (slotOf .read).next = some 0 ∧ (slotOf .read).req.kind = .read ∧ (slotOf .verify).req.kind = .verify
    ∧ (slotOf .fill).req.kind = .fill ∧ touchedWhole 64 256 0 = true
    ∧ { slotOf .fill with req := { request .fill with len := 8 } }.next = some 0 ∧ touchedWhole 64 8 0 = false := by
  decide

/-- Bank 0 with a number of general operations waiting and one in progress. -/
def crowded (n : Nat) (s : State) : State :=
  withBank 0 (fun x => { x with state := .working, cur := some { progress .read none with op := { opOf .read with bank := 0 } },
                                waiting := List.replicate n { opOf .read with bank := 0 } }) s

theorem verify_offers : ∃ o, (slotOf .verify).nextOp? .s256 = some o ∧ o.bank = 0 := ⟨_, rfl, by decide⟩

/-- Banks with 29 general operations and with none. -/
theorem witness_IssueAdmitted :
    let x := slotOf .verify
    let s := crowded 28 (withSlots [x] online)
    s.host.tracker.safe ∧ s.host.quiescent ∧ s.host.tracker.slot? 0 = some x ∧ x.state = .issuing ∧ x.held = none
    ∧ x.ended ≤ x.issued ∧ (∃ o, x.nextOp? s.pool.control.stride = some o ∧ o.bank = 0)
    ∧ s.pool.channels[bankChannel 0] = .active ∧ (s.pool.bank 0).generalCount = 29
    ∧ ((withSlots [x] online).pool.bank 0).cur = none :=
  ⟨by decide, quiescent_withSlots (by decide) (fun _ _ _ h => nomatch h), rfl, rfl, rfl, by decide, verify_offers,
    by decide, by decide, by decide⟩

/-- A bank with 30 general operations, and a slot that holds an operation. -/
theorem witness_IssueHeld :
    let x := slotOf .verify
    let s := crowded 29 (withSlots [x] online)
    let y := { x with held := some (opOf .check) }
    s.host.tracker.slot? 0 = some x ∧ x.state = .issuing ∧ x.held = none
    ∧ (∃ o, x.nextOp? s.pool.control.stride = some o ∧ o.bank = 0) ∧ s.pool.channels[bankChannel 0] = .active
    ∧ 30 ≤ (s.pool.bank 0).generalCount ∧ (withSlots [y] online).host.tracker.slot? 0 = some y ∧ y.held ≠ none :=
  ⟨rfl, rfl, rfl, verify_offers, by decide, by decide, rfl, by decide⟩

theorem witness_IssueToFailedChannel :
    let x := slotOf .verify
    let s := failing 0 (withSlots [x] online)
    s.host.tracker.safe ∧ s.host.quiescent ∧ s.host.tracker.slot? 0 = some x ∧ x.state = .issuing ∧ x.held = none
    ∧ x.req.kind = .verify ∧ x.next = some 0 ∧ 0 + 1 < x.req.count
    ∧ s.pool.channels[bankChannel (s.pool.control.stride.bankOf ((x.req.a / 64 + 0) * 64))] = .failed :=
  ⟨by decide, quiescent_withSlots (by decide) (fun _ _ _ h => nomatch h), rfl, rfl, rfl, rfl, rfl, by decide, by decide⟩

/-- The result of an operation of slot 0, tag 1, at the last granule of bank 255. -/
def endOf (result : OpResult) : OpEnd := { op := opOf .check, result := result, data := 0 }

theorem witness_ResultComesBack :
    (endOf .ok).op.issuer = .slot 0 1
    ∧ (∀ x, (withSlots [{ slotOf .verify with tag := 2 }] online).host.tracker.slot? 0 = some x → x.tag ≠ 1)
    ∧ (withSlots [slotOf .verify] online).host.tracker.slot? 0 = some (slotOf .verify) ∧ (slotOf .verify).tag = 1
    ∧ (slotOf .verify).req.kind ≠ .read ∧ (slotOf .verify).req.kind ≠ .copy :=
  ⟨rfl, fun x h => by cases h; decide, rfl, rfl, by decide, by decide⟩

/-- The first granule of a READ of one word that lies at the granule's end. -/
theorem witness_ReadDataDelivered :
    let x := { slotOf .read with req := { request .read with a := 56, len := 8 } }
    let e : OpEnd := { op := { opOf .read with bank := 0, row := 0, gran := 0 }, result := .ok, data := 1 }
    let h := (withSlots [x] online).host
    e.op.issuer = .slot 0 x.tag ∧ h.tracker.slot? 0 = some x ∧ x.req.kind = .read ∧ x.req.useList = false
    ∧ x.hostAccess = false ∧ x.aborted = false ∧ e.result ≠ .channelFailed
    ∧ Stride.s256.address e.op.bank e.op.row e.op.gran 0 ≤ max x.req.a 0 ∧ max x.req.a 0 < 0 + 64
    ∧ Stride.s256.address e.op.bank e.op.row e.op.gran 0 = 0 ∧ min (x.req.a + x.req.len) (0 + 64) - max x.req.a 0 = 8
    ∧ h.port.inWindow (x.req.host + (max x.req.a 0 - x.req.a)) 8 = true :=
  ⟨rfl, rfl, rfl, rfl, rfl, rfl, by decide, by decide, by decide, by decide, by decide, by decide⟩

/-- Entries of 8 and 248 bytes: a segment that crosses them, and the last byte of the list. -/
theorem witness_ReadDataDelivered_list :
    let es := listEntries 2 listBytes
    let x := { slotOf .read with list := es, req := { request .read with useList := true, listCount := 2 } }
    let h := (withSlots [x] online).host
    x.req.useList = true ∧ (x.list.map (·.len)).sum = x.req.len
    ∧ (listSegments x.list 0 64).length = 2 ∧ (∀ p ∈ listSegments x.list 0 64, h.port.inWindow p.1 p.2 = true)
    ∧ (255 + 1 ≤ (es.map (·.len)).sum ∧ 0 < 1 ∧ es[1]? = some { host := 0x3000, len := 248 }
      ∧ ((es.take 1).map (·.len)).sum ≤ 255 + 0 ∧ 255 + 0 < ((es.take 2).map (·.len)).sum) := by decide

/-- A FENCED slot behind the one that completes: of the same ring and of another, with a buffer list and without. -/
theorem witness_SlotCompletion_fence :
    let x := { slotOf .verify with state := .awaiting, next := none, issued := 4, ended := 4 }
    let y := { slotOf .read with num := 1, state := .fenced, req := { request .read with useList := true, listCount := 2 } }
    let h := (withSlots [x, y] online).host
    h.tracker.slots = [x, y] ∧ x.state = .awaiting ∧ x.ended = x.issued ∧ h.port.outstanding (Owner.ofSlot x.num) = false
    ∧ (∀ id ring k, h.config ≠ .drainWait id ring k) ∧ y.num ≠ x.num ∧ y.state = .fenced ∧ y.ring = x.ring
    ∧ { y with ring := 30 }.ring ≠ x.ring ∧ y.req.kind = .read ∧ y.req.useList = true
    ∧ { y with req := request .read }.req.useList = false
    ∧ h.port.sent.length + y.listReads.length ≤ 128 ∧ (∀ z ∈ y.listReads, h.port.inWindow z.2.1 z.2.2 = true) :=
  ⟨rfl, rfl, rfl, by decide, (fun _ _ _ h => nomatch h), by decide, rfl, rfl, by decide, rfl, rfl, rfl, by decide,
    by decide⟩

theorem witness_SlotCompletion :
    let x := { slotOf .verify with state := .awaiting, next := none, issued := 4, ended := 4, tainted := 1 }
    let h := (withSlots [x] online).host
    h.tracker.slots = [x] ∧ x.ended = x.issued ∧ h.port.outstanding (Owner.ofSlot x.num) = false
    ∧ ∀ id ring k, h.config ≠ .drainWait id ring k := ⟨rfl, rfl, by decide, fun _ _ _ h => nomatch h⟩

/-! ### Operations, STEPs and migrations -/

theorem working_noneHeld (ip : InProgress) : (working ip).host.tracker.noneHeldFor 255 :=
  fun x h => absurd h (show ¬x ∈ ([] : List Slot) by simp)

theorem witness_ReadAndCheck :
    ((working (progress .read none)).pool.bank 255).cur = some (progress .read none)
    ∧ ((working (progress .check (some (3, 31)))).pool.bank 255).cur = some (progress .check (some (3, 31)))
    ∧ (progress .read none).targetKey? = none ∧ (progress .check (some (3, 31))).targetKey? = none
    ∧ (working (progress .read none)).host.tracker.noneHeldFor 255 :=
  ⟨by decide, by decide, by decide, by decide, working_noneHeld _⟩

theorem witness_ReadsBelowCursor :
    ((working (progress .read (some (3, 32)))).pool.bank 255).cur = some (progress .read (some (3, 32)))
    ∧ (progress .read (some (3, 32))).targetKey? = some (granKey 255 65535 (some 3) 31)
    ∧ (progress .read (some (3, 32))).op.issuer = .slot 0 1
    ∧ (working (progress .read (some (3, 32)))).host.tracker.noneHeldFor 255 :=
  ⟨by decide, by decide, rfl, working_noneHeld _⟩

/-- A MERGE at the source, and one below the cursor. -/
theorem witness_MergeOperation :
    ((working (progress (.merge 0x80 0) none)).pool.bank 255).cur = some (progress (.merge 0x80 0) none)
    ∧ (progress (.merge 0x80 0) none).targetKey? = none
    ∧ ((working (progress (.merge 0 0) (some (3, 32)))).pool.bank 255).cur = some (progress (.merge 0 0) (some (3, 32)))
    ∧ (progress (.merge 0 0) (some (3, 32))).targetKey? = some (granKey 255 65535 (some 3) 31)
    ∧ (opOf (.merge 0 0)).issuer = .slot 0 1
    ∧ (working (progress (.merge 0 0) (some (3, 32)))).host.tracker.noneHeldFor 255
    ∧ ReadOutcome.corrected ≠ .uncorrectable :=
  ⟨by decide, by decide, by decide, by decide, rfl, working_noneHeld _, by decide⟩

/-- A VERIFY slot that waits for bank 255. -/
def waiting (n : SlotNo) : Slot :=
  { slotOf .verify with num := n, held := some { opOf .check with issuer := .slot n 1 } }

/-- Two slots wait for bank 255, the one earlier in the intake order with the higher number; the bank's 30 general places are
taken, and the slot of the operation in progress is FREE. -/
theorem witness_WriteAndMark_waiting :
    let s := withSlots [slotOf .read, waiting 5, waiting 2] (withBank 255 (fun x =>
      { x with waiting := List.replicate 29 (opOf .read) }) (working
        { progress .mark none with op := { opOf .mark with issuer := .slot 60 1 } }))
    (s.pool.bank 255).cur = some { progress .mark none with op := { opOf .mark with issuer := .slot 60 1 } }
    ∧ (s.pool.bank 255).generalCount = 30 ∧ s.pool.channels[bankChannel 255] = .active ∧ s.host.tracker.safe
    ∧ s.host.quiescent ∧ (∀ y ∈ s.host.tracker.slots, y.num ≠ 60)
    ∧ s.host.tracker.slots = [slotOf .read] ++ waiting 5 :: [waiting 2]
    ∧ (∀ y ∈ [slotOf .read], ∀ p, y.held = some p → p.bank ≠ 255)
    ∧ (waiting 5).held = some { opOf .check with issuer := .slot 5 1 } ∧ (waiting 5).state = .issuing
    ∧ (waiting 5).req.kind = .verify ∧ (waiting 5).next = some 0 ∧ 0 + 1 < (waiting 5).req.count :=
  ⟨by decide, by decide, by decide, by decide,
    quiescent_withSlots (by decide) (fun _ _ _ h => nomatch h), by decide, rfl,
    (fun y hy p h => by simp only [List.mem_singleton] at hy; subst hy; cases h), rfl, rfl, rfl, rfl, by decide⟩

theorem witness_WriteAndMark :
    ((working (progress (.write 5) none)).pool.bank 255).cur = some (progress (.write 5) none)
    ∧ ((working (progress .mark (some (3, 32)))).pool.bank 255).cur = some (progress .mark (some (3, 32)))
    ∧ (opOf .mark).issuer = .slot 0 1 := by decide

/-- A bank with a younger operation of its open row, one without, and one with nothing waiting. -/
theorem witness_BankTakesNext :
    let x : Bank := { Bank.reset with openRow := some 65535, waiting := [{ opOf .read with row := 1 }, opOf .check] }
    x.cur = none ∧ x.waiting = [{ opOf .read with row := 1 }] ++ opOf .check :: [] ∧ x.openRow = some (opOf .check).row
    ∧ (∀ y ∈ [{ opOf .read with row := 1 }], x.openRow ≠ some y.row)
    ∧ (∀ y ∈ x.waiting, { x with openRow := some 2 }.openRow ≠ some y.row) ∧ Bank.reset.waiting = []
    ∧ online.pool.channels[bankChannel 255] = .active
    ∧ (failing 15 online).pool.channels[bankChannel 255] = .failed := by decide

theorem witness_StepCopies :
    ((stepping (migration 31 3)).pool.bank 255).cur
      = some { op := stepOp 255 65535, source := none, mig := some (0, 31) }
    ∧ (stepOp 255 65535).kind = .step ∧ (none : Option SpareNo) ≠ some 0 := by decide

/-- A STEP at granule 30, which the next follows, and one at granule 31, which completes. -/
theorem witness_StepAdvances :
    (stepping (migration 30 1)).pool.migration.slotOf? 255 = some (3, migration 30 1)
    ∧ (stepping (migration 31 1)).pool.migration.slotOf? 255 = some (3, migration 31 1)
    ∧ (stepping (migration 30 1)).host.quiescent ∧ (migration 30 1).cursor + 1 < 32 ∧ 32 ≤ (migration 31 1).cursor + 1
    ∧ (stepping (migration 30 1)).pool.channels[bankChannel 255] = .active
    ∧ ((stepping (migration 30 1)).pool.bank 255).waiting = [] ∧ (migration 31 1).source ≠ some (migration 31 1).target :=
  ⟨by decide, by decide, online_quiescent, by decide, by decide, by decide, by decide, by decide⟩

/-- All spares of bank 255 but the target RETIRED. -/
def noSpares (s : State) : State :=
  s.setPool (s.pool.setSpares (s.pool.spares.set 255 ((Vector.replicate 32 .retired).set 0 (.target 65535))))

/-- Target failures at attempt 2 with spare 1 FREE, at attempt 3, without a FREE spare, in a FAILED channel, and at a host
READ below the cursor. -/
theorem witness_TargetFailures :
    (stepping (migration 30 2)).pool.migration.slotOf? 255 = some (3, migration 30 2)
    ∧ (stepping (migration 30 2)).pool.spare 255 0 = .target 65535 ∧ (migration 30 2).attempt < 3
    ∧ (stepping (migration 30 2)).pool.spare 255 1 = .free
    ∧ (∀ y : SpareNo, y < 1 → (stepping (migration 30 2)).pool.spare 255 y ≠ .free) ∧ 3 ≤ (migration 30 3).attempt
    ∧ (∀ x, (noSpares (stepping (migration 30 2))).pool.spare 255 x ≠ .free)
    ∧ (noSpares (stepping (migration 30 2))).pool.spare 255 0 = .target 65535
    ∧ (failing 15 (stepping (migration 30 2))).pool.channels[bankChannel 255] = .failed
    ∧ ((failing 15 (stepping (migration 30 2))).pool.bank 255).waiting = []
    ∧ ((migrating (migration 32 3) (working (progress .read (some (0, 32))))).pool.bank 255).cur
      = some (progress .read (some (0, 32)))
    ∧ (progress .read (some (0, 32))).targetKey?.isSome = true ∧ (opOf .read).row = (migration 32 3).row := by decide

/-! ### Command errors and failure signals -/

theorem witness_CommandErrors :
    let s := working (progress .read none)
    (s.pool.bank 255).cur = some (progress .read none) ∧ s.pool.channels[bankChannel 255] = .active
    ∧ (withBank 255 (fun x => { x with retry := 7 }) s).pool.bank 255 = { s.pool.bank 255 with retry := 7 }
    ∧ 8 ≤ ((withBank 255 (fun x => { x with retry := 8 }) s).pool.bank 255).retry ∧ s.pool.scrub.owed = false
    ∧ (failing 15 s).pool.channels[bankChannel 255] = .failed ∧ (opOf .read).issuer = .slot 0 1
    ∧ (s.pool.bank 255).waiting = []
    ∧ (∀ i, bankChannel i = bankChannel 255 → i ≠ 255 → (s.pool.bank i).cur = none ∧ (s.pool.bank i).waiting = []) := by
  decide

/-- A state with one signal on its way. -/
def signalled (target : SignalTarget) (c : ChanNo) (s : State) : State :=
  s.setPool (s.pool.setSignals [(target, c)])

/-- The pool FORMATTING, every bank before its first row. -/
def formatting : State := online.setPool (online.pool.setControl
  { state := .formatting, stride := .s256, cursor := some
      { banks := Vector.replicate 256 (FormatBank.start false), turn := 255 } })

/-- A VERIFY slot that holds an operation for bank 255. -/
def holder : Slot := { slotOf .verify with held := some (opOf .check) }

theorem witness_FailureSignals :
    (SignalTarget.tracker, 3) ∉ online.pool.signals
    ∧ (SignalTarget.poolControl, 15) ∈ (signalled .poolControl 15 online).pool.signals
    ∧ online.pool.control.state = .online ∧ rings.pool.control.state = .offline
    ∧ formatting.pool.control.state = .formatting
    ∧ (∃ f, formatting.pool.control.cursor = some f ∧ ∃ i : BankNo, bankChannel i ≠ 15 ∧ f.banks[i].done = false)
    ∧ (SignalTarget.migrationController, 0) ∈ (signalled .migrationController 0 online).pool.signals
    ∧ (∀ e ∈ (keeping [entry .candidate 4 true] [(5, 9)] online).pool.health.table, e.state = .candidate → e.queued = true)
    ∧ (let s := failing 0 (signalled .migrationController 0 (keeping [entry .candidate 4 false] [(5, 9)] online))
       (SignalTarget.migrationController, 0) ∈ s.pool.signals ∧ s.pool.channels[(0 : ChanNo)] = .failed
       ∧ s.pool.health.table = [] ++ entry .candidate 4 false :: [] ∧ bankChannel (entry .candidate 4 false).bank = 0)
    ∧ (SignalTarget.healthMonitor, 0) ∈ (signalled .healthMonitor 0 online).pool.signals
    ∧ (SignalTarget.tracker, 15) ∈ (signalled .tracker 15 (failing 15 (withSlots [holder] online))).pool.signals
    ∧ holder.held = some (opOf .check) ∧ bankChannel (opOf .check).bank = 15
    ∧ (failing 15 (withSlots [holder] online)).pool.channels[(15 : ChanNo)] = .failed ∧ holder.next = some 0
    ∧ 0 + 1 < holder.req.count :=
  ⟨by decide, by decide, rfl, rfl, rfl, ⟨_, rfl, 0, by decide, by decide⟩, by decide, by decide, by decide, by decide,
    by decide, rfl, by decide, by decide, rfl, by decide⟩

/-! ### Health table, migration queue and starts -/

/-- A full table of BLOCKED entries, and one whose first entry is WATCH. -/
def fullTable (first : HealthState) : List HealthEntry :=
  { entry first 1 false with bank := 6, row := 0 } ::
    (List.range 511).map fun i => { entry .blocked 4 false with bank := 7, row := Fin.ofNat 65536 i }

/-- A state with one report of row 9 of bank 5 on its way. -/
def reported (o : ErrOutcome) (s : State) : State := s.setPool (s.pool.setReports [{ bank := 5, row := 9, outcome := o }])

theorem fullTable_tail (first : HealthState) : ∀ f ∈ (fullTable first).tail, f.bank = 7 ∧ f.state = .blocked := by
  intro f hf
  simp only [fullTable, List.tail_cons, List.mem_map] at hf
  obtain ⟨i, _, rfl⟩ := hf
  exact ⟨rfl, rfl⟩

/-- Known rows below and at the threshold of 4, queued or not, with 15 and 16 candidates; a new row; a full table with and
without a WATCH entry. -/
theorem witness_OutcomeReports :
    (reported .corrected online).pool.reports = [] ++ { bank := 5, row := 9, outcome := .corrected } :: []
    ∧ (failing 0 (reported .corrected online)).pool.channels[bankChannel 5] = .failed
    ∧ (reported .corrected online).pool.channels[bankChannel 5] = .active
    ∧ (online.pool.health.threshold = 4 ∧ min 15 ((entry .watch 2 false).count + 1) = 3
      ∧ min 15 ((entry .watch 3 true).count + 1) = 4)
    ∧ (5, 9) ∉ online.pool.migration.queue
    ∧ (∀ (i : Fin 4) (m : MigSlot), online.pool.migration.slots[i] = some m → ¬(m.bank = 5 ∧ m.row = 9))
    ∧ (List.replicate 15 ((6 : BankNo), (1 : RowNo))).length < 16 ∧ 16 ≤ (List.replicate 16 ((6 : BankNo), (1 : RowNo))).length
    ∧ (fullTable .watch).length = 512
    ∧ (fullTable .watch = [] ++ { entry .watch 1 false with bank := 6, row := 0 } :: (fullTable .watch).tail)
    ∧ (∀ f ∈ (fullTable .watch).tail, f.state ≠ .watch ∧ ¬(f.bank = 6 ∧ f.row = 0))
    ∧ (∀ f ∈ fullTable .blocked, f.state ≠ .watch ∧ ¬(f.bank = 5 ∧ f.row = 9)) := by
  refine ⟨rfl, by decide, by decide, by decide, by decide, ?_, by decide, by decide, by simp [fullTable], rfl, ?_, ?_⟩
  · intro i m h
    rw [(by decide : ∀ j : Fin 4, online.pool.migration.slots[j] = none) i] at h
    cases h
  · intro f hf
    obtain ⟨hb, hs⟩ := fullTable_tail _ f hf
    simp [hb, hs]
  · intro f hf
    rcases List.mem_cons.mp hf with rfl | hf
    · decide
    · obtain ⟨hb, hs⟩ := fullTable_tail .blocked f hf
      simp [hb, hs]

theorem witness_MigrateRowAndHealthClear :
    (holding (.migrateRow 256 0) online).host.config = .executing 1 (.migrateRow 256 0) none
    ∧ (holding (.migrateRow 255 65535) online).host.config = .executing 1 (.migrateRow 255 65535) none
    ∧ (255 : BankNo).val = 255 ∧ (65535 : RowNo).val = 65535 ∧ rings.pool.control.state = .offline
    ∧ online.pool.control.state = .online ∧ (failing 15 online).pool.channels[bankChannel 255] ≠ .active
    ∧ (255, 65535) ∈ (keeping [] [(255, 65535)] online).pool.migration.queue
    ∧ 16 ≤ (keeping [] (List.replicate 16 (0, 0)) online).pool.migration.queue.length
    ∧ (255, 65535) ∉ (keeping [] (List.replicate 16 (0, 0)) online).pool.migration.queue
    ∧ online.pool.migration.queue.length < 16
    ∧ (holding .healthClear rings).host.config = .executing 1 .healthClear none := by decide

/-- A candidate behind one of a bank that migrates, with and without FREE spares. -/
def waitingCandidate : State := keeping [entry .candidate 4 true] [(255, 1), (5, 9)] (migrating (migration 3 1) online)

theorem witness_MigrationStarts :
    rings.pool.control.state = .offline ∧ online.pool.migration.queue = []
    ∧ waitingCandidate.pool.control.state = .online ∧ waitingCandidate.pool.migration.slots[(0 : Fin 4)] = none
    ∧ waitingCandidate.pool.migration.queue = [(255, 1)] ++ (5, 9) :: []
    ∧ waitingCandidate.pool.migration.slots[(3 : Fin 4)] = some (migration 3 1)
    ∧ (∀ i : Fin 4, ∀ x ∈ waitingCandidate.pool.migration.slots[i], x.bank ≠ 5)
    ∧ (∀ e ∈ waitingCandidate.pool.health.table, e.state = .candidate → e.queued = true)
    ∧ waitingCandidate.pool.spare 5 0 = .free ∧ waitingCandidate.pool.channels[bankChannel 5] = .active
    ∧ (waitingCandidate.pool.bank 5).cur = none
    ∧ (∀ x, (noSpares (keeping [] [(255, 65535)] online)).pool.spare 255 x ≠ .free)
    ∧ (∀ i : Fin 4, (noSpares (keeping [] [(255, 65535)] online)).pool.migration.slots[i] = none) := by decide

/-! ### Scrubber, format, configuration commands -/

/-- The scrubber's timer running at a position. -/
def scrubbing (row : RowNo) (bank : BankNo) (s : State) : State :=
  s.setPool (s.pool.setScrub { s.pool.scrub with interval := 1, running := true, row := row, bank := bank })

theorem witness_ScrubVisits :
    online.pool.scrub.running = false ∧ (scrubbing 65535 255 online).pool.scrub.running = true
    ∧ (scrubbing 65535 255 online).pool.scrub.cur = none
    ∧ (scrubbing 65535 255 (failing 15 online)).pool.channels[bankChannel 255] = .failed
    ∧ (migrating (migration 3 1) online).pool.migration.slots[(3 : Fin 4)] = some (migration 3 1)
    ∧ ((scrubbing 0 255 online).pool.bank 255).cur = none
    ∧ ((working (progress .read none)).pool.bank 255).cur ≠ none
    ∧ ({ Scrub.reset with cur := some { bank := 0, row := 0, next := 0 } } : Scrub).cur ≠ none := by decide

/-- The CHECK of a granule of row 9 of bank 255 in progress for the scrubber. -/
def scrubCheck (next : Nat) : InProgress := { op := scrubOp 255 9 (Fin.ofNat 32 next), source := none, mig := none }

theorem witness_ScrubCheckEnds :
    let s := fun next => (fun s : State => s.setPool (s.pool.setScrub { s.pool.scrub with
      cur := some { bank := 255, row := 9, next := next } })) (working (scrubCheck next))
    ((s 30).pool.bank 255).cur = some (scrubCheck 30) ∧ ((s 31).pool.bank 255).cur = some (scrubCheck 31)
    ∧ ((s 30).pool.bank 255).waiting = [] ∧ (scrubCheck 30).op = scrubOp 255 9 (Fin.ofNat 32 30)
    ∧ (scrubCheck 31).targetKey? = none ∧ (s 30).pool.scrub.cur = some { bank := 255, row := 9, next := 30 }
    ∧ (s 30).host.quiescent ∧ (s 30).pool.control.state ≠ .formatting
    ∧ (s 30).pool.channels[bankChannel 255] ≠ .failed ∧ (∀ i : Fin 4, (s 30).pool.migration.slots[i] = none)
    ∧ (s 31).pool.scrub.owed = false ∧ ¬((9 : RowNo).val = 65535 ∧ (255 : BankNo).val = 255) :=
  ⟨by decide, by decide, by decide, rfl, by decide, rfl, online_quiescent, by decide, by decide, by decide, rfl,
    by decide⟩

/-- The CHECK of the last granule of the row at the last position ends with a visit owed: to row 0 of bank 255, the bank with
nothing else, to row 0 of bank 254, which works, and to a row of a FAILED channel. -/
theorem witness_ScrubCheckEnds_owed :
    let ip : InProgress := { op := scrubOp 255 65535 (Fin.ofNat 32 31), source := none, mig := none }
    let s := fun bank => (fun s : State => s.setPool (s.pool.setScrub { s.pool.scrub with
      cur := some { bank := 255, row := 65535, next := 31 }, owed := true, bank := bank })) (working ip)
    ((s 255).pool.bank 255).cur = some ip ∧ ((s 255).pool.bank 255).waiting = [] ∧ ip.targetKey? = none
    ∧ (s 255).pool.scrub.owed = true ∧ (65535 : RowNo).val = 65535 ∧ (255 : BankNo).val = 255
    ∧ (s 255).pool.scrub.bank = 255 ∧ (s 255).pool.channels[bankChannel 255] = .active
    ∧ (∀ i : Fin 4, (s 255).pool.migration.slots[i] = none)
    ∧ ((withBank 254 (fun x => { x with cur := some (progress .read none) }) (s 254)).pool.bank 254).cur ≠ none
    ∧ (failing 14 (s 239)).pool.channels[bankChannel 239] = .failed ∧ (s 255).host.quiescent :=
  ⟨by decide, by decide, by decide, rfl, rfl, rfl, rfl, by decide, by decide, by decide, by decide, online_quiescent⟩

theorem witness_PoolFormatBegins :
    (holding (.poolFormat 2048) online).host.config = .executing 1 (.poolFormat 2048) none
    ∧ 2047 ∉ [256, 512, 1024, 2048] ∧ 2048 ∈ [256, 512, 1024, 2048] ∧ formatting.pool.control.state = .formatting
    ∧ (withSlots [slotOf .read] online).host.tracker.slots ≠ [] ∧ online.host.tracker.slots = []
    ∧ online.host.tracker.opsOut = 0 ∧ (∀ i : Fin 4, online.pool.migration.slots[i] = none)
    ∧ online.pool.channels[bankChannel 0] ≠ .failed
    ∧ (∀ c : ChanNo, (online.setPool (online.pool.setChannels (Vector.replicate 16 .failed))).pool.channels[c] = .failed) := by
  decide

/-- A format write of the last granule of the last row of bank 255, the only bank not done. -/
def lastWrite : State :=
  let ip : InProgress := { op := formatOp 255 65535 31, source := none, mig := none }
  let s := working ip
  let last : FormatBank := { row := 65535, issued := 32, ended := 31, done := false }
  let f : FormatCursor := { banks := (Vector.replicate 256 (FormatBank.start true)).set 255 last, turn := 0 }
  s.setPool (s.pool.setControl { state := .formatting, stride := .s256, cursor := some f })

theorem witness_FormatWrites :
    online.pool.control.cursor = none
    ∧ (∃ f, formatting.pool.control.cursor = some f ∧ f.banks[f.turn].done = false ∧ f.banks[f.turn].issued < 32
      ∧ (formatting.pool.bank f.turn).generalCount < 30 ∧ formatting.pool.channels[bankChannel f.turn] = .active
      ∧ (formatting.pool.bank f.turn).cur = none)
    ∧ (∃ f, lastWrite.pool.control.cursor = some f ∧ f.banks[f.turn].done = true ∧ f.banks[(255 : BankNo)].done = false
      ∧ f.banks[(255 : BankNo)].ended + 1 = 32 ∧ ∀ i : BankNo, i ≠ 255 → f.banks[i].done = true)
    ∧ (lastWrite.pool.bank 255).cur = some { op := formatOp 255 65535 31, source := none, mig := none }
    ∧ (formatOp 255 65535 31).issuer = .format ∧ (formatOp 255 65535 31).kind = .write 0 ∧ lastWrite.host.quiescent := by
  refine ⟨rfl, ⟨_, rfl, by decide, by decide, by decide, by decide, by decide⟩,
    ⟨_, rfl, by decide, by decide, by decide, ?_⟩, by decide, rfl, rfl, online_quiescent⟩
  intro i hi
  have h : (255 : Nat) ≠ i.val := fun h => hi (Fin.ext h.symm)
  simp [h, FormatBank.start]

/-- A QUEUE CREATE for each kind with every parameter at its greatest, in a window that the ring fills. -/
theorem witness_QueueCreation :
    (holding (.queueCreate 1 30 4096 0x7000 31 8) rings).host.config = .executing 1 (.queueCreate 1 30 4096 0x7000 31 8) none
    ∧ (30 : RingId).val = 30 ∧ (rings.host.rq 30).state = .absent ∧ (rings.host.cq 30).state = .absent
    ∧ (rings.host.rq 31).state ≠ .absent ∧ rings.host.port.windowLow.toNat ≤ 0x7000
    ∧ 0x7000 + 64 * 4096 - 1 ≤ rings.host.port.windowHigh.toNat ∧ (rings.host.cq 31).state = .active
    ∧ (rings.host.cq 29).state ≠ .active ∧ (31 : Byte).toNat ≤ 31 ∧ 31 < (32 : Byte).toNat ∧ 8 < (9 : Byte).toNat
    ∧ 3 ∉ [1, 2] := by decide

/-- A drain of RQ31 that waits for its last slot, which has ended; with a fetch of the ring left, and with a slot whose
operations are at the banks. -/
theorem witness_QueueDeletion_drain :
    let x := { slotOf .verify with state := .awaiting, next := none, issued := 4, ended := 4 }
    let h := (withSlots [x] rings).host.setConfig (.drainWait 1 31 256)
    h.config = .drainWait 1 31 256 ∧ h.tracker.slots = [x] ∧ x.ring = 31 ∧ x.state = .awaiting ∧ x.ended = x.issued
    ∧ h.port.outstanding (Owner.ofSlot x.num) = false ∧ h.engine.fetch = none
    ∧ (h.setFetch (some { ring := 31, handed := 0, recs := [none] })).engine.fetch
      = some { ring := 31, handed := 0, recs := [none] }
    ∧ { x with ended := 3 }.ended ≠ x.issued :=
  ⟨rfl, rfl, rfl, rfl, rfl, by decide, rfl, rfl, by decide⟩

theorem witness_QueueDeletion :
    let busySlot := { slotOf .verify with issued := 2, ended := 1 }
    let idleSlot := { slotOf .verify with issued := 2, ended := 2 }
    (holding (.queueDelete 1 31 true) rings).host.config = .executing 1 (.queueDelete 1 31 true) none
    ∧ (holding (.queueDelete 1 31 true) rings).host.quiescent ∧ (31 : RingId).val = 31
    ∧ (rings.host.cq 30).state = .absent ∧ 0 < (rings.host.cq 31).bound
    ∧ ((rings.host.setCq 30 (Cq.created 0x7000 2 0 0 false)).cq 30).bound = 0 ∧ (rings.host.rq 30).state = .absent
    ∧ (rings.host.rq 31).state ≠ .absent ∧ rings.host.tracker.slots = [] ∧ rings.host.engine.fetch = none
    ∧ (holding (.queueDelete 1 31 true) (withSlots [busySlot] rings)).host.quiescent
    ∧ busySlot.ring = 31 ∧ busySlot.ended ≠ busySlot.issued
    ∧ (holding (.queueDelete 1 31 true) (withSlots [idleSlot] rings)).host.quiescent
    ∧ idleSlot.ring = 31 ∧ idleSlot.ended = idleSlot.issued :=
  ⟨rfl, ⟨by decide, fun _ _ _ h => nomatch h⟩, rfl, by decide, by decide, by decide, by decide, by decide, rfl, rfl,
    ⟨by decide, fun _ _ _ h => nomatch h⟩, rfl, by decide, ⟨by decide, fun _ _ _ h => nomatch h⟩, rfl, rfl⟩

theorem witness_EventRingAndParameters :
    (holding (.eventQueueSet 1024 0x7000 31 true) rings).host.config = .executing 1 (.eventQueueSet 1024 0x7000 31 true) none
    ∧ 0x7000 % 64 = 0 ∧ 0x7000 + 32 * 1024 - 1 ≤ rings.host.port.windowHigh.toNat ∧ rings.host.events.entries = []
    ∧ ¬(2 ≤ 1 ∧ 1 ≤ 1024) ∧ ¬1025 ≤ 1024
    ∧ (holding (.setParameters 65535 15 0) online).host.config = .executing 1 (.setParameters 65535 15 0) none
    ∧ 65535 < 65536 ∧ 15 < 16
    ∧ (∀ e ∈ (keeping [entry .watch 3 true, entry .watch 1 false] [] online).pool.health.table,
        e.state = .watch → 2 ≤ e.count → e.queued = true) := by decide

/-- A buffer that ends with the window and one that starts at its last byte. -/
theorem witness_SnapshotsAndStatus :
    (holding (.mapRead 1 0xFFFF8) rings).host.config = .executing 1 (.mapRead 1 0xFFFF8) none
    ∧ (rings.host.port.windowLow.toNat ≤ 0xFFFF8 ∧ 0xFFFF8 + 8 * 1 - 1 ≤ rings.host.port.windowHigh.toNat)
    ∧ ¬0xFFFFF + 8 - 1 ≤ rings.host.port.windowHigh.toNat
    ∧ (holding (.healthRead 0 0) rings).host.config = .executing 1 (.healthRead 0 0) none
    ∧ (holding (.statusRead 0xFFFC0) rings).host.config = .executing 1 (.statusRead 0xFFFC0) none
    ∧ 0xFFFC0 + 63 ≤ rings.host.port.windowHigh.toNat ∧ ¬0xFFFC1 + 63 ≤ rings.host.port.windowHigh.toNat
    ∧ ((List.finRange 4).filterMap fun i => (migrating (migration 31 3) online).pool.migration.slots[i])[0]?
      = some (migration 31 3) := by decide

/-- An image of two entries, ACTIVE and RETIRED, and the same with a repeated spare. -/
def image (second : Byte) : List Byte := [255, 0, 31, 1, 255, 255, 0, 0] ++ [255, 0, second, 2, 0, 0, 0, 0]

theorem witness_MapLoading :
    let s := (fun s : State => s.setHost (s.host.setConfig (.executing 1 (.mapLoad 2 8192) (some []))))
      (reading (.image 0) 16 rings)
    (holding (.mapLoad 8192 8192) rings).host.config = .executing 1 (.mapLoad 8192 8192) none
    ∧ rings.pool.control.state = .offline ∧ online.pool.control.state ≠ .offline
    ∧ 8192 + 8 * 8192 - 1 ≤ rings.host.port.windowHigh.toNat
    ∧ s.host.config = .executing 1 (.mapLoad 2 8192) (some [])
    ∧ (∃ r, s.host.port.sent = [{ read := r, abandoned := false, bytes := List.replicate (8 * 2) none }]
      ∧ r.owner = .image 0) ∧ s.host.port.waiting = [] ∧ (image 30).length = 8 * 2
    ∧ firstInvalid [] (mapEntries 2 (image 30)) = none ∧ firstInvalid [] (mapEntries 2 (image 31)) = some 1 :=
  ⟨rfl, rfl, by decide, by decide, rfl, ⟨_, rfl, rfl⟩, rfl, rfl, by decide, by decide⟩

/-! ### Invariants -/

theorem witness_StepKeepsHostCollections :
    step State.reset = .next State.reset ∧ State.reset.host.events.safe ∧ State.reset.host.port.placesSafe
    ∧ State.reset.host.tracker.safe ∧ State.reset.host.creditSafe :=
  ⟨rfl, by decide, by decide, by decide, reset_creditSafe⟩

/-- With every spare FREE, no migration and every bank unit empty the row map's rules hold. -/
theorem reset_mapSafe : State.reset.mapSafe := by
  have hs : ∀ b i, State.reset.pool.spare b i = .free := fun b i => by simp [PoolSide.spare, State.reset, PoolSide.reset]
  have hm : ∀ k : Fin 4, State.reset.pool.migration.slots[k] = none := by decide
  have hb : ∀ b, State.reset.pool.bank b = Bank.reset := fun b => by simp [PoolSide.bank, State.reset, PoolSide.reset]
  refine ⟨⟨?_, ?_, ?_, ?_⟩, ?_, ?_, (fun _ h => nomatch h), fun _ => hm, fun _ _ _ _ h => nomatch h⟩
  · simp [hs, hm]
  · simp [hm]
  · simp [hs]
  · simp [hm]
  · simp [hb, hm, PoolSide.recordsSafe, Bank.reset]
  · simp [hb, Bank.ops, Bank.reset]

theorem witness_StepKeepsPoolCollections :
    step State.reset = .next State.reset ∧ State.reset.pool.mem.wf ∧ State.reset.pool.health.safe
    ∧ State.reset.pool.migration.safe ∧ State.reset.mapSafe :=
  ⟨rfl, List.Pairwise.nil, by decide, ⟨by decide, by decide, by decide, by decide⟩, reset_mapSafe⟩

end Sys2Proof.Tests
end

section
/-! PROOF. The pool address map (chapter 1): what each step of the decomposition answers, the reverse mapping as its
inverse, and where the operations a slot offers are. -/

namespace Sys2Proof.Machine

/-! ## Runs of bytes inside aligned blocks -/

/-- A run of bytes that stays inside a block of `m` bytes stays inside a block of any multiple of `m`. -/
theorem mod_add_lt_of_dvd {m n a d : Nat} (h : m ∣ n) (hn : 0 < n) (hd : a % m + d < m) : a % n + d < n := by
  obtain ⟨c, rfl⟩ := h
  have hc : a / m % c + 1 ≤ c := Nat.mod_lt _ (Nat.pos_of_mul_pos_left hn)
  calc a % (m * c) + d = m * (a / m % c) + (a % m + d) := by rw [Nat.mod_mul]; omega
    _ < m * (a / m % c) + m := by omega
    _ = m * (a / m % c + 1) := (Nat.mul_succ _ _).symm
    _ ≤ m * c := Nat.mul_le_mul_left m hc

/-- The bytes of a run inside a block of `m` bytes have the block number of the first, and follow it in the block. -/
theorem div_mod_add_of_lt {m a d : Nat} (hd : a % m + d < m) : (a + d) / m = a / m ∧ (a + d) % m = a % m + d := by
  have hdm : d < m := by omega
  have h : a % m + d % m < m := by rwa [Nat.mod_eq_of_lt hdm]
  constructor
  · rw [Nat.add_div_eq_of_add_mod_lt h, Nat.div_eq_of_lt hdm, Nat.add_zero]
  · rw [Nat.add_mod, Nat.mod_eq_of_lt h, Nat.mod_eq_of_lt hdm]

/-! ## Strides (R2) -/

theorem Stride.bytes_pos (st : Stride) : 0 < st.bytes := by cases st <;> decide

/-- A chunk holds whole granules. -/
theorem Stride.granule_dvd_bytes (st : Stride) : 64 ∣ st.bytes := by cases st <;> decide

/-- A logical row holds whole chunks. -/
theorem Stride.bytes_dvd_row (st : Stride) : st.bytes ∣ 2048 := by cases st <;> decide

/-! ## The steps of the decomposition (R3) -/

theorem bankChannel_val (b : BankNo) : (bankChannel b).val = b.val / 16 := Nat.mod_eq_of_lt (by omega)

theorem Stride.bankOf_val (st : Stride) (a : Nat) :
    (st.bankOf a).val = a / st.bytes % 16 * 16 + a / st.bytes / 16 % 16 := Nat.mod_eq_of_lt (by omega)

theorem Stride.bankOf_congr {st : Stride} {a c : Nat} (h : a / st.bytes = c / st.bytes) :
    st.bankOf a = st.bankOf c := by
  simp only [Stride.bankOf, h]

theorem Stride.channel_bankOf (st : Stride) (a : Nat) : (bankChannel (st.bankOf a)).val = a / st.bytes % 16 := by
  rw [bankChannel_val, Stride.bankOf_val]; omega

/-- The bank's number in its channel. -/
theorem Stride.bankOf_local (st : Stride) (a : Nat) : (st.bankOf a).val % 16 = a / st.bytes / 16 % 16 := by
  rw [st.bankOf_val]; omega

/-- Chunks go to the channels in turn. -/
theorem Stride.channel_next_chunk (st : Stride) (a : Nat) :
    (bankChannel (st.bankOf (a + st.bytes))).val = (a / st.bytes + 1) % 16 := by
  rw [Stride.channel_bankOf, Nat.add_div_right a st.bytes_pos]

theorem Stride.offsetOf_div (st : Stride) (a : Nat) : st.offsetOf a / st.bytes = a / st.bytes / 256 := by
  rw [Stride.offsetOf, Nat.mul_comm, Nat.mul_add_div st.bytes_pos, Nat.div_eq_of_lt (Nat.mod_lt a st.bytes_pos),
    Nat.add_zero]

theorem Stride.offsetOf_mod (st : Stride) (a : Nat) : st.offsetOf a % st.bytes = a % st.bytes := by
  rw [Stride.offsetOf, Nat.mul_add_mod_self_right, Nat.mod_mod]

/-- A bank holds 2^27 bytes in its logical rows. -/
theorem Stride.offsetOf_lt (st : Stride) {a : Nat} (h : a < 2 ^ 35) : st.offsetOf a < 2 ^ 27 := by
  cases st <;> simp only [Stride.offsetOf, Stride.bytes] <;> omega

theorem Stride.rowOf_val (st : Stride) {a : Nat} (h : st.offsetOf a < 2 ^ 27) :
    (st.rowOf a).val = st.offsetOf a / 2048 := Nat.mod_eq_of_lt (by omega)

theorem Stride.granOf_val (st : Stride) (a : Nat) : (st.granOf a).val = st.offsetOf a % 2048 / 64 :=
  Nat.mod_eq_of_lt (by omega)

/-! ## The reverse mapping (R4) -/

/-- The bank-local offset of byte `n` of a granule of a logical row. -/
def bankOffset (r : RowNo) (g : GranNo) (n : Nat) : Nat := r.val * 2048 + g.val * 64 + n

theorem bankOffset_lt (r : RowNo) (g : GranNo) {n : Nat} (h : n < 64) : bankOffset r g n < 2 ^ 27 := by
  unfold bankOffset; omega

/-- Row, granule and byte are the places of the bank-local offset. -/
theorem Stride.bankOffset_parts (st : Stride) {a : Nat} (h : a < 2 ^ 35) :
    bankOffset (st.rowOf a) (st.granOf a) (st.byteOf a) = st.offsetOf a := by
  rw [bankOffset, st.rowOf_val (st.offsetOf_lt h), st.granOf_val, Stride.byteOf]
  omega

/-- The number of the chunk that holds bank-local offset `offset` of bank `b`. -/
def Stride.chunkAt (st : Stride) (b : BankNo) (offset : Nat) : Nat :=
  offset / st.bytes * 256 + b.val % 16 * 16 + b.val / 16

/-- The channel, the bank in it and the chunk in the bank are the places of the chunk's number. -/
theorem Stride.chunkAt_parts (st : Stride) (b : BankNo) (offset : Nat) :
    st.chunkAt b offset % 16 = b.val / 16 ∧ st.chunkAt b offset / 16 % 16 = b.val % 16
      ∧ st.chunkAt b offset / 256 = offset / st.bytes := by
  have hdiv : st.chunkAt b offset / 16 = offset / st.bytes * 16 + b.val % 16 := by rw [Stride.chunkAt]; omega
  have hmod : st.chunkAt b offset % 16 = b.val / 16 := by rw [Stride.chunkAt]; omega
  exact ⟨hmod, by omega, by omega⟩

theorem Stride.address_eq (st : Stride) (b : BankNo) (r : RowNo) (g : GranNo) (n : Nat) :
    st.address b r g n = st.chunkAt b (bankOffset r g n) * st.bytes + bankOffset r g n % st.bytes := rfl

theorem Stride.address_div (st : Stride) (b : BankNo) (r : RowNo) (g : GranNo) (n : Nat) :
    st.address b r g n / st.bytes = st.chunkAt b (bankOffset r g n) := by
  rw [Stride.address_eq, Nat.mul_comm, Nat.mul_add_div st.bytes_pos, Nat.div_eq_of_lt (Nat.mod_lt _ st.bytes_pos),
    Nat.add_zero]

theorem Stride.address_mod (st : Stride) (b : BankNo) (r : RowNo) (g : GranNo) (n : Nat) :
    st.address b r g n % st.bytes = bankOffset r g n % st.bytes := by
  rw [Stride.address_eq, Nat.mul_add_mod_self_right, Nat.mod_mod]

/-- The chunk of an address is the one at its offset in its bank. -/
theorem Stride.chunkAt_bankOf (st : Stride) (a : Nat) : st.chunkAt (st.bankOf a) (st.offsetOf a) = a / st.bytes := by
  have hc := st.channel_bankOf a
  rw [bankChannel_val] at hc
  rw [Stride.chunkAt, st.offsetOf_div, st.bankOf_local, hc]
  omega

theorem Stride.address_decomposition (st : Stride) {a : Nat} (h : a < 2 ^ 35) :
    st.address (st.bankOf a) (st.rowOf a) (st.granOf a) (st.byteOf a) = a := by
  rw [st.address_eq, st.bankOffset_parts h, st.chunkAt_bankOf, st.offsetOf_mod, Nat.div_add_mod']

theorem Stride.offsetOf_address (st : Stride) (b : BankNo) (r : RowNo) (g : GranNo) (n : Nat) :
    st.offsetOf (st.address b r g n) = bankOffset r g n := by
  obtain ⟨-, -, hchunk⟩ := st.chunkAt_parts b (bankOffset r g n)
  rw [Stride.offsetOf, st.address_div, st.address_mod, hchunk, Nat.div_add_mod']

theorem Stride.address_lt (st : Stride) (b : BankNo) (r : RowNo) (g : GranNo) {n : Nat} (h : n < 64) :
    st.address b r g n < 2 ^ 35 := by
  have ho := bankOffset_lt r g h
  rw [st.address_eq]
  cases st <;> simp only [Stride.chunkAt, Stride.bytes] <;> omega

theorem Stride.bankOf_address (st : Stride) (b : BankNo) (r : RowNo) (g : GranNo) (n : Nat) :
    st.bankOf (st.address b r g n) = b := by
  apply Fin.ext
  obtain ⟨hchannel, hlocal, -⟩ := st.chunkAt_parts b (bankOffset r g n)
  rw [st.bankOf_val, st.address_div, hchannel, hlocal, Nat.div_add_mod']

theorem Stride.rowOf_address (st : Stride) (b : BankNo) (r : RowNo) (g : GranNo) {n : Nat} (h : n < 64) :
    st.rowOf (st.address b r g n) = r := by
  apply Fin.ext
  have ho := st.offsetOf_address b r g n
  rw [st.rowOf_val (ho ▸ bankOffset_lt r g h), ho, bankOffset]
  omega

theorem Stride.granOf_address (st : Stride) (b : BankNo) (r : RowNo) (g : GranNo) {n : Nat} (h : n < 64) :
    st.granOf (st.address b r g n) = g := by
  apply Fin.ext
  rw [st.granOf_val, st.offsetOf_address, bankOffset]
  omega

theorem Stride.byteOf_address (st : Stride) (b : BankNo) (r : RowNo) (g : GranNo) {n : Nat} (h : n < 64) :
    st.byteOf (st.address b r g n) = n := by
  rw [Stride.byteOf, st.offsetOf_address, bankOffset]
  omega

/-- A granule lies inside one chunk, so its bytes are consecutive pool addresses. -/
theorem Stride.address_byte (st : Stride) (b : BankNo) (r : RowNo) (g : GranNo) {n : Nat} (h : n < 64) :
    st.address b r g n = st.address b r g 0 + n := by
  have hg : bankOffset r g 0 % 64 + n < 64 := by unfold bankOffset; omega
  obtain ⟨hdiv, hmod⟩ := div_mod_add_of_lt (mod_add_lt_of_dvd st.granule_dvd_bytes st.bytes_pos hg)
  have hn : bankOffset r g n = bankOffset r g 0 + n := by simp only [bankOffset, Nat.add_zero]
  simp only [st.address_eq, Stride.chunkAt, hn, hdiv, hmod, Nat.add_assoc]

/-! ## The bytes of a chunk (R4) -/

theorem Stride.bankOf_same_chunk (st : Stride) {a d : Nat} (h : a % st.bytes + d < st.bytes) :
    st.bankOf (a + d) = st.bankOf a := Stride.bankOf_congr (div_mod_add_of_lt h).1

theorem Stride.offsetOf_same_chunk (st : Stride) {a d : Nat} (h : a % st.bytes + d < st.bytes) :
    st.offsetOf (a + d) = st.offsetOf a + d := by
  obtain ⟨hdiv, hmod⟩ := div_mod_add_of_lt h
  rw [Stride.offsetOf, hdiv, hmod, ← Nat.add_assoc, ← Stride.offsetOf]

/-- A chunk lies inside one logical row, the row being a multiple of the stride. -/
theorem Stride.rowOf_same_chunk (st : Stride) {a d : Nat} (h : a % st.bytes + d < st.bytes) :
    st.rowOf (a + d) = st.rowOf a := by
  have hr : st.offsetOf a % 2048 + d < 2048 :=
    mod_add_lt_of_dvd st.bytes_dvd_row (by decide) (by rwa [st.offsetOf_mod])
  rw [Stride.rowOf, st.offsetOf_same_chunk h, (div_mod_add_of_lt hr).1, ← Stride.rowOf]

/-! ## Where the operations of a slot are (R133, R135) -/

/-- The operation names the bank, row and granule of the decomposition of a pool address. -/
def BankOp.isAt (o : BankOp) (st : Stride) (a : Nat) : Prop :=
  o.bank = st.bankOf a ∧ o.row = st.rowOf a ∧ o.gran = st.granOf a

theorem Stride.opAt_isAt (st : Stride) (a : Nat) (kind : OpKind) (iss : Issuer) : (st.opAt a kind iss).isAt st a :=
  ⟨rfl, rfl, rfl⟩

/-- A slot that serves no COPY offers an operation at the next granule of its range. -/
theorem Slot.nextOp?_isAt_of_ne_copy {x : Slot} {st : Stride} {o : BankOp} (h : x.nextOp? st = some o)
    (hk : x.req.kind ≠ .copy) : ∃ k, x.next = some k ∧ o.isAt st (touchedBase x.req.a k) := by
  unfold Slot.nextOp? at h
  cases hkind : x.req.kind with
  | read | verify | fill =>
    simp only [hkind, Option.map_eq_some_iff] at h
    obtain ⟨k, hnext, rfl⟩ := h
    exact ⟨k, hnext, st.opAt_isAt _ _ _⟩
  | write =>
    simp only [hkind, Option.bind_eq_some_iff, Option.map_eq_some_iff] at h
    obtain ⟨k, hnext, bytes, -, rfl⟩ := h
    exact ⟨k, hnext, st.opAt_isAt _ _ _⟩
  | copy => exact absurd hkind hk

/-- A COPY with a destination granule ready offers an operation at the first of them. -/
theorem Slot.nextOp?_isAt_ready {x : Slot} {st : Stride} {o : BankOp} (h : x.nextOp? st = some o)
    (hk : x.req.kind = .copy) {j : Nat} {kind : OpKind} {rest : List (Nat × OpKind)}
    (hr : x.copy.ready = (j, kind) :: rest) : o.isAt st (touchedBase x.req.b j) := by
  simp only [Slot.nextOp?, hk, hr, Option.some.injEq] at h
  exact h ▸ st.opAt_isAt _ _ _

/-- A COPY with no destination granule ready offers an operation at the next source granule. -/
theorem Slot.nextOp?_isAt_source {x : Slot} {st : Stride} {o : BankOp} (h : x.nextOp? st = some o)
    (hk : x.req.kind = .copy) (hr : x.copy.ready = []) : o.isAt st (touchedBase x.req.a x.copy.source) := by
  simp only [Slot.nextOp?, hk, hr, Option.ite_none_right_eq_some, Option.some.injEq] at h
  obtain ⟨-, rfl⟩ := h
  exact st.opAt_isAt _ _ _

end Sys2Proof.Machine

open Sys2Proof.Machine

/-- Settles O3: each step has its value in the model's definition, and each operation a slot offers is made by
`Stride.opAt` at the address named. -/
theorem addressDecomposition : Obligations.AddressDecomposition := by
  refine ⟨fun st a ha => ?_, fun x st o ho => ⟨?_, fun hk => ⟨?_, ?_⟩⟩⟩
  · exact ⟨st.bankOf_val a, st.channel_bankOf a, st.rowOf_val (st.offsetOf_lt ha), st.granOf_val a, rfl,
      st.channel_next_chunk a⟩
  · exact Slot.nextOp?_isAt_of_ne_copy ho
  · exact fun _ _ _ => Slot.nextOp?_isAt_ready ho hk
  · exact Slot.nextOp?_isAt_source ho hk

/-- Settles O4: the map and its reverse agree on the number of the chunk and on the bank-local offset, and a granule
divides the chunk, which divides the row. -/
theorem addressMapOneToOne : Obligations.AddressMapOneToOne := by
  refine fun st => ⟨fun a => st.address_decomposition, fun b r g n hn => ?_, fun b r g n => st.address_byte b r g,
    fun _ _ _ _ => rfl, fun a d hd => ⟨st.bankOf_same_chunk hd, st.rowOf_same_chunk hd⟩⟩
  exact ⟨st.address_lt b r g hn, st.bankOf_address b r g n, st.rowOf_address b r g hn, st.granOf_address b r g hn,
    st.byteOf_address b r g hn⟩
end

section
/-! PROOF. Live row migration (chapter 4): the granules a STEP writes, what the migration controller's act at its end
leaves beside its bank, and what the delivery of that end leaves. -/

namespace Sys2Proof.Machine

/-! ## The granules of a STEP (R66) -/

/-- The physical rows of a bank do not share granules: another spare than the source has another key. -/
theorem granKey_target_ne {b : BankNo} {r : RowNo} {source : Option SpareNo} {target : SpareNo} (g : GranNo)
    (h : source ≠ some target) : granKey b r source g ≠ granKey b r (some target) g := by
  cases source with
  | none => simp only [granKey]; omega
  | some x =>
    have hx : x.val ≠ target.val := fun e => h (congrArg some (Fin.ext e))
    simp only [granKey]; omega

/-- The copy of granule `g` from key `sk` to key `tk` by the outcome of its source read (R66). -/
def copyWrites (sk tk : Nat) (g : Granule) (source : ReadOutcome) : List (Nat × Granule) :=
  if source = .uncorrectable then [(sk, .tainted), (tk, .tainted)]
  else if source = .corrected ∧ g ≠ .tainted then [(sk, g), (tk, g)]
  else [(tk, g)]

/-- A STEP's writes copy the granule at the cursor read at its taking, as a read finds it. -/
theorem PoolSide.stepWrites_eq_copyWrites (p : PoolSide) (ip : InProgress) (target : SpareNo) (c : GranNo)
    (source : ReadOutcome) : p.stepWrites ip target c.val source =
      copyWrites (granKey ip.op.bank ip.op.row ip.source c) (granKey ip.op.bank ip.op.row (some target) c)
        (p.granule (granKey ip.op.bank ip.op.row ip.source c) 0) source := by
  have hc : Fin.ofNat 32 c.val = c := Fin.ext (Nat.mod_eq_of_lt c.isLt)
  unfold PoolSide.stepWrites
  simp only [hc]
  cases p.granule (granKey ip.op.bank ip.op.row ip.source c) 0 <;> cases source <;> rfl

theorem Memory.read_copyWrites_target (m : Memory) (sk tk : Nat) (g : Granule) (source : ReadOutcome) :
    (m.writeAll (copyWrites sk tk g source)).read tk = if source = .uncorrectable then some .tainted else some g := by
  unfold copyWrites
  split
  · simp [Memory.writeAll]
  · split <;> simp [Memory.writeAll]

theorem Memory.read_copyWrites_source (m : Memory) {sk tk : Nat} (h : sk ≠ tk) (g : Granule) (source : ReadOutcome) :
    (m.writeAll (copyWrites sk tk g source)).read sk =
      if source = .uncorrectable then some .tainted
      else if source = .corrected ∧ g ≠ .tainted then some g else m.read sk := by
  unfold copyWrites
  split
  · simp [Memory.writeAll, Memory.read_write_of_ne _ h.symm]
  · split <;> simp [Memory.writeAll, Memory.read_write_of_ne _ h.symm]

theorem Memory.read_copyWrites_of_ne (m : Memory) {sk tk a : Nat} (ht : a ≠ tk) (hs : a ≠ sk) (g : Granule)
    (source : ReadOutcome) : (m.writeAll (copyWrites sk tk g source)).read a = m.read a := by
  apply Memory.read_writeAll_of_not_mem
  unfold copyWrites
  split
  · simp [hs.symm, ht.symm]
  · split <;> simp [hs.symm, ht.symm]

/-! ## What the acts at a bank leave beside it -/

/-- What the end of a STEP at bank `b` leaves: pool control, the scrubber and every other bank. -/
def PoolSide.keptBeside (p q : PoolSide) (b : BankNo) : Prop :=
  q.control = p.control ∧ q.scrub = p.scrub ∧ ∀ i, i ≠ b → q.bank i = p.bank i

theorem PoolSide.keptBeside.refl (p : PoolSide) (b : BankNo) : p.keptBeside p b := ⟨rfl, rfl, fun _ _ => rfl⟩

theorem PoolSide.keptBeside.trans {p q r : PoolSide} {b : BankNo} (h : p.keptBeside q b) (k : q.keptBeside r b) :
    p.keptBeside r b := by
  obtain ⟨hcontrol, hscrub, hbank⟩ := h
  obtain ⟨kcontrol, kscrub, kbank⟩ := k
  exact ⟨kcontrol.trans hcontrol, kscrub.trans hscrub, fun i hi => (kbank i hi).trans (hbank i hi)⟩

theorem PoolSide.keptBeside_setBank (p : PoolSide) (b : BankNo) (x : Bank) : p.keptBeside (p.setBank b x) b :=
  ⟨rfl, rfl, fun _ hi => p.bank_setBank_of_ne hi.symm x⟩

theorem PoolSide.keptBeside_takeNext (p : PoolSide) (b : BankNo) : p.keptBeside (p.takeNext b) b := by
  obtain ⟨x, h⟩ := p.takeNext_eq b
  exact h ▸ p.keptBeside_setBank b x

theorem PoolSide.keptBeside_arrive (p : PoolSide) (o : BankOp) : p.keptBeside (p.arrive o) o.bank := by
  obtain ⟨x, h⟩ := p.arrive_eq o
  exact h ▸ p.keptBeside_setBank o.bank x

theorem PoolSide.keptBeside_placeStep (p : PoolSide) (b : BankNo) : p.keptBeside (p.placeStep b) b := by
  obtain ⟨x, h⟩ := p.placeStep_eq b
  exact h ▸ p.keptBeside_setBank b x

theorem PoolSide.keptBeside_signalRoom (p : PoolSide) (b : BankNo) : p.keptBeside p.signalRoom b := by
  obtain ⟨t, q, h⟩ := p.signalRoom_eq
  exact h ▸ ⟨rfl, rfl, fun _ _ => rfl⟩

/-- For acts on spare records, migration slots or the health table alone. -/
theorem PoolSide.keptBeside_of_banks_eq {p q : PoolSide} (b : BankNo) (hcontrol : q.control = p.control)
    (hscrub : q.scrub = p.scrub) (hbanks : q.banks = p.banks) : p.keptBeside q b :=
  ⟨hcontrol, hscrub, fun i _ => by simp only [PoolSide.bank, hbanks]⟩

/-! ## The migration controller's act at the end of a STEP (R67, R68) -/

/-- The slot that names a bank names that bank. -/
theorem Migration.slotOf?_bank {m : Migration} {b : BankNo} {i : Fin 4} {s : MigSlot}
    (h : m.slotOf? b = some (i, s)) : s.bank = b := by
  obtain ⟨j, -, hj⟩ := List.exists_of_findSome?_eq_some h
  split at hj
  · split at hj
    · rename_i hb
      cases hj
      exact hb
    · cases hj
  · cases hj

theorem Work.keptBeside_abandon (w : Work) (i : Fin 4) (s : MigSlot) (b : BankNo) :
    w.pool.keptBeside (w.abandon i s).pool b :=
  (PoolSide.keptBeside_of_banks_eq b rfl rfl rfl).trans (PoolSide.keptBeside_signalRoom _ b)

/-- The shape that completion and failure share: slot and record go, an act that keeps the other banks, then room. -/
theorem PoolSide.keptBeside_endMigration (p : PoolSide) {q : PoolSide} (i : Fin 4) (b : BankNo)
    (hsignal : ((p.setMigSlot i none).setRecord b none).keptBeside q b) : p.keptBeside q.signalRoom b :=
  ((p.setMigSlot i none).keptBeside_setBank b _).trans (hsignal.trans (q.keptBeside_signalRoom b))

theorem Work.keptBeside_failMigration (w : Work) (i : Fin 4) (s : MigSlot) (reason : MigReason) :
    w.pool.keptBeside (w.failMigration i s reason).pool s.bank :=
  w.pool.keptBeside_endMigration i s.bank (PoolSide.keptBeside_of_banks_eq s.bank rfl rfl rfl)

theorem PoolSide.keptBeside_setMig (p : PoolSide) (i : Fin 4) (s : MigSlot) :
    p.keptBeside (p.setMig i s) s.bank :=
  (p.setMigSlot i (some s)).keptBeside_setBank s.bank _

theorem Work.keptBeside_completeMigration (w : Work) (i : Fin 4) (s : MigSlot) :
    w.pool.keptBeside (w.completeMigration i s).pool s.bank := by
  have hspares : w.pool.keptBeside (match s.source with
      | some x => (w.pool.setSpare s.bank s.target (.active s.row)).setSpare s.bank x .retired
      | none => w.pool.setSpare s.bank s.target (.active s.row)) s.bank := by
    cases s.source <;> exact PoolSide.keptBeside_of_banks_eq s.bank rfl rfl rfl
  exact hspares.trans (PoolSide.keptBeside_endMigration _ i s.bank
    (PoolSide.keptBeside_of_banks_eq s.bank rfl rfl rfl))

theorem Work.keptBeside_targetFailure (w : Work) (i : Fin 4) (s : MigSlot) :
    w.pool.keptBeside (w.targetFailure i s).pool s.bank := by
  have hretired : w.pool.keptBeside (w.pool.setSpare s.bank s.target .retired) s.bank :=
    PoolSide.keptBeside_of_banks_eq s.bank rfl rfl rfl
  unfold Work.targetFailure
  dsimp only
  split
  · exact hretired.trans (Work.keptBeside_failMigration _ i s _)
  · split
    · exact PoolSide.keptBeside.trans (PoolSide.keptBeside_of_banks_eq s.bank rfl rfl rfl)
        (PoolSide.keptBeside_setMig _ i _)
    · exact hretired.trans (Work.keptBeside_failMigration _ i s _)

/-- The controller's act on a STEP's report changes no bank but the STEP's. -/
theorem Work.keptBeside_stepReport (w : Work) (b : BankNo) (r : StepReport) :
    w.pool.keptBeside (w.stepReport b r).pool b := by
  unfold Work.stepReport
  split
  · exact .refl _ b
  · rename_i i s hslot
    obtain rfl := Migration.slotOf?_bank hslot
    cases r with
    | void => exact .refl _ _
    | channelFailed => exact w.keptBeside_abandon i s _
    | targetFailed =>
      dsimp only
      split
      · exact w.keptBeside_abandon i s _
      · exact w.keptBeside_targetFailure i s
    | advanced =>
      dsimp only
      split
      · exact w.keptBeside_completeMigration i _
      · split
        · exact w.keptBeside_abandon i _ _
        · exact w.pool.keptBeside_setMig i _

/-- The end of a STEP changes no bank but its own, and neither pool control nor the scrubber. -/
theorem Work.keptBeside_endStep (w : Work) (b : BankNo) (ip : InProgress) (source verify : ReadOutcome) :
    w.pool.keptBeside (w.endStep b ip source verify).pool b := by
  unfold Work.endStep
  split
  · exact (w.pool.keptBeside_setBank b _).trans (PoolSide.keptBeside_takeNext _ b)
  · refine PoolSide.keptBeside.trans ?_ (PoolSide.keptBeside_placeStep _ b)
    refine PoolSide.keptBeside.trans ?_ (PoolSide.keptBeside_takeNext _ b)
    refine PoolSide.keptBeside.trans ?_ (Work.keptBeside_stepReport _ b _)
    exact PoolSide.keptBeside.trans (PoolSide.keptBeside_of_banks_eq b rfl rfl rfl)
      (PoolSide.keptBeside_setBank _ b _)

/-! ## Delivery to one bank (R134) -/

@[simp] theorem State.placeOp_pending (s : State) (n : SlotNo) (o : BankOp) : (s.placeOp n o).pending = s.pending := by
  unfold State.placeOp
  dsimp only
  split <;> rfl

theorem State.keptBeside_placeOp (s : State) (n : SlotNo) (o : BankOp) :
    s.pool.keptBeside (s.placeOp n o).pool o.bank := by
  unfold State.placeOp
  dsimp only
  split
  · exact .refl _ _
  · exact s.pool.keptBeside_arrive o

/-- The operation that is admitted next is one that was asked for. -/
theorem Tracker.waitingFor_holds {t : Tracker} {f : BankOp → Bool} {n : SlotNo} {o : BankOp}
    (h : t.waitingFor f = some (n, o)) : f o = true := by
  obtain ⟨x, -, hx⟩ := List.exists_of_findSome?_eq_some h
  split at hx
  · split at hx
    · rename_i hf
      cases hx
      exact hf
    · cases hx
  · cases hx

@[simp] theorem State.admitNext_pending (f : BankNo → Bool) (k : Nat) (s : State) :
    (s.admitNext f k).pending = s.pending := by
  induction k generalizing s with
  | zero => rfl
  | succ k ih =>
    unfold State.admitNext
    split
    · rw [ih, State.placeOp_pending]
    · rfl

/-- Admissions for bank `b` change no other bank. -/
theorem State.keptBeside_admitNext (b : BankNo) (k : Nat) (s : State) :
    s.pool.keptBeside (s.admitNext (· == b) k).pool b := by
  induction k generalizing s with
  | zero => exact .refl _ b
  | succ k ih =>
    unfold State.admitNext
    split
    · rename_i n o hnext
      have hbank : o.bank = b := by
        have hf := Tracker.waitingFor_holds hnext
        rw [Bool.and_eq_true, beq_iff_eq] at hf
        exact hf.1
      exact (hbank ▸ s.keptBeside_placeOp n o).trans (ih (s.placeOp n o))
    · exact .refl _ b

@[simp] theorem State.deliver_pending (s : State) (w : Work) (f : BankNo → Bool) :
    (s.deliver w f).pending = s.pending := by
  simp [State.deliver, State.admitHeld]

/-- The delivery of an end at bank `b` changes no other bank. -/
theorem State.keptBeside_deliver (s : State) (w : Work) (b : BankNo) :
    w.pool.keptBeside (s.deliver w (· == b)).pool b :=
  State.keptBeside_admitNext b _ (s.deliverEvents w)

/-! ## STEP_OPERATION -/

/-- A STEP in progress at its bank ends, and its end is delivered. -/
theorem exec_stepOperation_of_step {s : State} {b : BankNo} {ip : InProgress} (source verify : ReadOutcome)
    (hcur : (s.pool.bank b).cur = some ip) (hkind : ip.op.kind = .step) :
    exec (.stepOperation b source verify) s =
      .next (s.deliver ((Work.start s.pool).endStep b ip source verify) (· == b)) := by
  show execStepOperation b source verify s = _
  simp only [execStepOperation, hcur, hkind]

/-- A STEP's end, delivered, leaves the store that its writes and its report make. -/
theorem State.deliver_endStep_store (s : State) (b : BankNo) {ip : InProgress} {target : SpareNo} {c : Nat}
    (source verify : ReadOutcome) (hmig : ip.mig = some (target, c)) :
    (s.pool.commit b ip.op.row (s.pool.stepWrites ip target c source) (reportOf source)).sameStore
      (s.deliver ((Work.start s.pool).endStep b ip source verify) (· == b)).pool :=
  (Work.endStep_store (Work.start s.pool) b ip source verify target c hmig).trans (s.deliver_store _ _)

/-- A STEP's end, delivered, changes no bank but its own, and neither pool control nor the scrubber. -/
theorem State.keptBeside_deliver_endStep (s : State) (b : BankNo) (ip : InProgress) (source verify : ReadOutcome) :
    s.pool.keptBeside (s.deliver ((Work.start s.pool).endStep b ip source verify) (· == b)).pool b :=
  (Work.keptBeside_endStep (Work.start s.pool) b ip source verify).trans (s.keptBeside_deliver _ b)

end Sys2Proof.Machine

open Sys2Proof.Machine

/-- Settles O41: the end of a STEP commits its writes and its one report, and what follows (the migration controller's
act, the next taking, the next STEP, the delivery) leaves the store, pool control, the scrubber and every other bank. -/
theorem stepCopies : Obligations.StepCopies := by
  intro s b ip target c source verify hcur hkind hmig hsource sk tk g
  have hne : sk ≠ tk := granKey_target_ne c hsource
  obtain ⟨hmem, hreports, hchannels, hsignals, -⟩ := s.deliver_endStep_store b source verify hmig
  obtain ⟨hcontrol, hscrub, hbanks⟩ := s.keptBeside_deliver_endStep b ip source verify
  rw [PoolSide.commit_mem, PoolSide.stepWrites_eq_copyWrites] at hmem
  refine ⟨_, exec_stepOperation_of_step source verify hcur hkind, ?targetGranule, ?sourceGranule, ?otherGranules,
    ?oneReport, hcontrol, hchannels, hscrub, hsignals, hbanks, s.deliver_pending _ _⟩
  case targetGranule => rw [hmem]; exact Memory.read_copyWrites_target _ sk tk g source
  case sourceGranule => rw [hmem]; exact Memory.read_copyWrites_source _ hne g source
  case otherGranules => intro a ht hs; rw [hmem]; exact Memory.read_copyWrites_of_ne _ ht hs g source
  case oneReport => rw [hreports]; cases source <;> rfl
end

section
/-! PROOF. The health table's two commands (chapters 4, 5 and 9): the checks of MIGRATE ROW as conditions on the pool,
the answer of the migration queue for each, and what HEALTH CLEAR removes. -/

namespace Sys2Proof.Machine

/-! ## The conditions of the checks (R6, R58) -/

theorem PoolState.serving_iff (st : PoolState) : st.serving = true ↔ st = .online ∨ st = .degraded := by
  cases st <;> simp [PoolState.serving]

theorem PoolSide.bankFailed_eq_false_iff (p : PoolSide) (b : BankNo) :
    p.bankFailed b = false ↔ p.channels[bankChannel b] = .active := by
  unfold PoolSide.bankFailed
  cases p.channels[bankChannel b] <;> simp

theorem PoolSide.migrating_iff (p : PoolSide) (b : BankNo) (r : RowNo) : p.migrating b r = true ↔
    ∃ (i : Fin 4) (m : MigSlot), p.migration.slots[i] = some m ∧ m.bank = b ∧ m.row = r := by
  simp only [PoolSide.migrating, List.any_eq_true, Option.any_eq_true, Vector.mem_toList_iff, Bool.and_eq_true,
    beq_iff_eq]
  constructor
  · rintro ⟨s, hs, m, rfl, hm⟩
    obtain ⟨i, hi, hslot⟩ := Vector.getElem_of_mem hs
    exact ⟨⟨i, hi⟩, m, hslot, hm⟩
  · rintro ⟨i, m, hslot, hm⟩
    exact ⟨_, Vector.getElem_mem i.isLt, m, hslot, hm⟩

/-- A row waits in the migration queue or is in migration (R58): an offer of it is ALREADY_PENDING. -/
def PoolSide.rowPending (p : PoolSide) (b : BankNo) (r : RowNo) : Prop :=
  (b, r) ∈ p.migration.queue
    ∨ ∃ (i : Fin 4) (m : MigSlot), p.migration.slots[i] = some m ∧ m.bank = b ∧ m.row = r

theorem PoolSide.rowPending_iff (p : PoolSide) (b : BankNo) (r : RowNo) :
    (p.migration.queue.contains (b, r) || p.migrating b r) = true ↔ p.rowPending b r := by
  rw [Bool.or_eq_true, List.contains_iff_mem, p.migrating_iff, PoolSide.rowPending]

/-! ## The answers of the migration queue, in the order of its checks (R58) -/

theorem PoolSide.answer_channelFailed {p : PoolSide} {b : BankNo} (r : RowNo)
    (hchannel : p.channels[bankChannel b] ≠ .active) : p.answer b r = .channelFailed := by
  rw [ne_eq, ← p.bankFailed_eq_false_iff, Bool.not_eq_false] at hchannel
  rw [PoolSide.answer, if_pos hchannel]

theorem PoolSide.answer_of_active {p : PoolSide} {b : BankNo} (r : RowNo)
    (hchannel : p.channels[bankChannel b] = .active) : p.answer b r =
      if p.migration.queue.contains (b, r) || p.migrating b r then .alreadyPending
      else if 16 ≤ p.migration.queue.length then .queueFull
      else .accepted := by
  rw [← p.bankFailed_eq_false_iff] at hchannel
  rw [PoolSide.answer, if_neg (by simp [hchannel])]
  rfl

theorem PoolSide.answer_alreadyPending {p : PoolSide} {b : BankNo} {r : RowNo}
    (hchannel : p.channels[bankChannel b] = .active) (hpending : p.rowPending b r) :
    p.answer b r = .alreadyPending := by
  rw [p.answer_of_active r hchannel, if_pos ((p.rowPending_iff b r).mpr hpending)]

theorem PoolSide.answer_queueFull {p : PoolSide} {b : BankNo} {r : RowNo}
    (hchannel : p.channels[bankChannel b] = .active) (hpending : ¬p.rowPending b r)
    (hfull : 16 ≤ p.migration.queue.length) : p.answer b r = .queueFull := by
  rw [p.answer_of_active r hchannel, if_neg (mt (p.rowPending_iff b r).mp hpending), if_pos hfull]

theorem PoolSide.answer_accepted {p : PoolSide} {b : BankNo} {r : RowNo}
    (hchannel : p.channels[bankChannel b] = .active) (hpending : ¬p.rowPending b r)
    (hroom : p.migration.queue.length < 16) : p.answer b r = .accepted := by
  rw [p.answer_of_active r hchannel, if_neg (mt (p.rowPending_iff b r).mp hpending), if_neg (by omega)]

/-! ## MIGRATE ROW (R91, R183) -/

theorem HealthEntry.queuedSignal_eq (e : HealthEntry) : e.queuedSignal =
    if e.state ≠ .migrating then { e with state := .candidate, queued := true } else e := by
  unfold HealthEntry.queuedSignal
  split <;> simp [*]

/-- An accepted row joins the queue, and the queued signal reaches its entry (R58, R91). -/
theorem PoolSide.offer_queuedSignal {p : PoolSide} {b : BankNo} {r : RowNo} (h : p.answer b r = .accepted) :
    (p.offer b r).modifyEntry b r HealthEntry.queuedSignal =
      (p.setMigration { p.migration with queue := p.migration.queue ++ [(b, r)] }).setHealth
        { p.health with table := p.health.table.map fun e =>
            if e.bank = b ∧ e.row = r ∧ e.state ≠ .migrating then { e with state := .candidate, queued := true }
            else e } := by
  have hentry : ∀ e : HealthEntry, (if e.isFor b r then e.queuedSignal else e) =
      if e.bank = b ∧ e.row = r ∧ e.state ≠ .migrating then { e with state := .candidate, queued := true }
      else e := by
    intro e
    simp only [HealthEntry.queuedSignal_eq, HealthEntry.isFor, Bool.and_eq_true, beq_iff_eq, ← ite_and, and_assoc]
  rw [PoolSide.offer, if_pos h]
  simp only [PoolSide.modifyEntry, PoolSide.setTable, PoolSide.setMigration_health, hentry]

theorem PoolSide.migrateStatus_badParameter (p : PoolSide) {bank row : Nat} (h : 255 < bank ∨ 65535 < row) :
    p.migrateStatus bank row = .badParameter := if_pos h

theorem PoolSide.migrateStatus_of_row (p : PoolSide) (b : BankNo) (r : RowNo) :
    p.migrateStatus b.val r.val =
      if p.control.state.serving = false then .wrongState else (p.answer b r).status := by
  rw [PoolSide.migrateStatus, if_neg (by omega), Fin.ofNat_val_eq_self, Fin.ofNat_val_eq_self]

theorem PoolSide.migrateStatus_wrongState {p : PoolSide} (b : BankNo) (r : RowNo)
    (h : ¬(p.control.state = .online ∨ p.control.state = .degraded)) :
    p.migrateStatus b.val r.val = .wrongState := by
  rw [← PoolState.serving_iff, Bool.not_eq_true] at h
  rw [p.migrateStatus_of_row, if_pos h]

theorem PoolSide.migrateStatus_of_serving {p : PoolSide} (b : BankNo) (r : RowNo)
    (h : p.control.state = .online ∨ p.control.state = .degraded) :
    p.migrateStatus b.val r.val = (p.answer b r).status := by
  rw [← PoolState.serving_iff] at h
  rw [p.migrateStatus_of_row, if_neg (by simp [h])]

/-- A refused MIGRATE ROW completes with the check's status and leaves the pool side. -/
theorem exec_migrateRow_refused {s : State} {id : BitVec 16} {bank row : Nat} {st : Status}
    (hconfig : s.host.config = .executing id (.migrateRow bank row) none)
    (hst : s.pool.migrateStatus bank row = st) (hne : st ≠ .ok) :
    exec .migrateRow s = .next ((s.setPool s.pool).setHost (s.host.completeCommand id st 0)) := by
  show execMigrateRow s = _
  simp only [execMigrateRow, hconfig, hst, if_neg hne]

theorem exec_migrateRow_accepted {s : State} {id : BitVec 16} {b : BankNo} {r : RowNo}
    (hconfig : s.host.config = .executing id (.migrateRow b.val r.val) none)
    (hst : s.pool.migrateStatus b.val r.val = .ok) :
    exec .migrateRow s = .next ((s.setPool ((s.pool.offer b r).modifyEntry b r HealthEntry.queuedSignal)).setHost
      (s.host.completeCommand id .ok 0)) := by
  show execMigrateRow s = _
  simp only [execMigrateRow, hconfig, hst, if_true, Fin.ofNat_val_eq_self]

/-! ## HEALTH CLEAR (R96) -/

theorem mem_clearTable_iff (t : List HealthEntry) (e : HealthEntry) :
    e ∈ clearTable t ↔ e ∈ t ∧ (e.state = .candidate ∨ e.state = .migrating) := by
  simp [clearTable]

/-- A state of R84 is kept by HEALTH CLEAR or removed by it. -/
theorem HealthState.removed_eq_not_kept (x : HealthState) :
    (x == .watch || x == .blocked) = !(x == .candidate || x == .migrating) := by
  cases x <;> rfl

/-- The entries that HEALTH CLEAR removes are the WATCH and the BLOCKED ones. -/
theorem length_sub_length_clearTable (t : List HealthEntry) :
    t.length - (clearTable t).length = t.countP fun e => e.state == .watch || e.state == .blocked := by
  have hsplit := t.length_eq_countP_add_countP fun e => e.state == .candidate || e.state == .migrating
  simp only [HealthState.removed_eq_not_kept, clearTable, ← List.countP_eq_length_filter]
  simp only [Bool.not_eq_true, Bool.decide_eq_false] at hsplit
  omega

theorem exec_healthClear {s : State} {id : BitVec 16} (hconfig : s.host.config = .executing id .healthClear none) :
    exec .healthClear s = .next ((s.setPool (s.pool.setTable (clearTable s.pool.health.table))).setHost
      (s.host.completeCommand id .ok
        (s.pool.health.table.countP fun e => e.state == .watch || e.state == .blocked))) := by
  show execHealthClear s = _
  simp only [execHealthClear, hconfig, length_sub_length_clearTable]

end Sys2Proof.Machine

open Sys2Proof.Machine

/-- Settles O47: each check of MIGRATE ROW fixes the command's status, by the pool's state or by the answer of the
migration queue, and the status fixes the step; HEALTH CLEAR filters the table. -/
theorem migrateRowAndHealthClear : Obligations.MigrateRowAndHealthClear := by
  refine fun s id => ⟨fun bank row hconfig => ⟨fun hrange => ?badParameter, ?_⟩, fun hconfig => ?healthClear⟩
  case badParameter =>
    exact exec_migrateRow_refused hconfig (s.pool.migrateStatus_badParameter hrange) (by decide)
  case healthClear =>
    exact ⟨_, exec_healthClear hconfig, mem_clearTable_iff _, List.filter_sublist, rfl, rfl⟩
  rintro b r rfl rfl
  have answered : ∀ {a}, s.pool.control.state = .online ∨ s.pool.control.state = .degraded →
      s.pool.answer b r = a → s.pool.migrateStatus b.val r.val = a.status :=
    fun hserving ha => ha ▸ PoolSide.migrateStatus_of_serving b r hserving
  refine ⟨fun hserving => ?wrongState, fun hserving hchannel => ?channelFailed,
    fun hserving hchannel hpending => ?alreadyPending, fun hserving hchannel hpending hfull => ?queueFull,
    fun hserving hchannel hpending hroom => ?accepted⟩
  case wrongState =>
    exact exec_migrateRow_refused hconfig (PoolSide.migrateStatus_wrongState b r hserving) (by decide)
  case channelFailed =>
    exact exec_migrateRow_refused hconfig (answered hserving (PoolSide.answer_channelFailed r hchannel)) (by decide)
  case alreadyPending =>
    exact exec_migrateRow_refused hconfig (answered hserving (PoolSide.answer_alreadyPending hchannel hpending))
      (by decide)
  case queueFull =>
    exact exec_migrateRow_refused hconfig (answered hserving (PoolSide.answer_queueFull hchannel hpending hfull))
      (by decide)
  case accepted =>
    have ha := PoolSide.answer_accepted hchannel hpending hroom
    rw [← PoolSide.offer_queuedSignal ha]
    exact exec_migrateRow_accepted hconfig (answered hserving ha)
end

section
/-! PROOF. The granules of a range (R108): the bounds of a touched granule, its word mask, whole and partial granules, and
the one place in the banks that all its bytes have. -/

namespace Sys2Proof.Machine

/-! ## The bounds of a touched granule -/

/-- The range begins before the end of its first granule, and so before the end of every later one. -/
theorem lt_touchedBase_add (p k : Nat) : p < touchedBase p k + 64 := by unfold touchedBase; omega

theorem touchedBase_lt_end {p len k : Nat} (hlen : 0 < len) (hk : k < touchedCount p len) :
    touchedBase p k < p + len := by
  unfold touchedCount at hk; unfold touchedBase; omega

/-- An address lies in granule `k` exactly when it is one of the 64 bytes from the granule's first. -/
theorem div_eq_iff_touchedBase {p k a : Nat} :
    a / 64 = p / 64 + k ↔ touchedBase p k ≤ a ∧ a < touchedBase p k + 64 := by
  unfold touchedBase; omega

theorem touchedLo_mem_range {p len k : Nat} (hlen : 0 < len) (hk : k < touchedCount p len) :
    p ≤ touchedLo p k ∧ touchedLo p k < p + len :=
  ⟨Nat.le_max_left _ _, Nat.max_lt.mpr ⟨Nat.lt_add_of_pos_right hlen, touchedBase_lt_end hlen hk⟩⟩

theorem touchedLo_div (p k : Nat) : touchedLo p k / 64 = p / 64 + k :=
  div_eq_iff_touchedBase.mpr
    ⟨Nat.le_max_right _ _, Nat.max_lt.mpr ⟨lt_touchedBase_add p k, Nat.lt_add_of_pos_right (by decide)⟩⟩

theorem touchedLo_le {p k a : Nat} (hp : p ≤ a) (ha : a / 64 = p / 64 + k) : touchedLo p k ≤ a :=
  Nat.max_le.mpr ⟨hp, (div_eq_iff_touchedBase.mp ha).1⟩

theorem exists_touched_of_mem_range {p len a : Nat} (hp : p ≤ a) (ha : a < p + len) :
    ∃ k, k < touchedCount p len ∧ touchedBase p k ≤ a ∧ a < touchedBase p k + 64 := by
  refine ⟨a / 64 - p / 64, ?_, div_eq_iff_touchedBase.mp (by omega)⟩
  unfold touchedCount; omega

/-! ## The word mask -/

/-- The difference of two powers of two is a run of ones. -/
theorem testBit_two_pow_sub_two_pow (hi lo w : Nat) : (2 ^ hi - 2 ^ lo).testBit w = true ↔ lo ≤ w ∧ w < hi := by
  rcases Nat.le_total lo hi with h | h
  · have hrun : 2 ^ hi - 2 ^ lo = (2 ^ (hi - lo) - 1) * 2 ^ lo := by
      rw [Nat.sub_mul, ← Nat.pow_add, Nat.sub_add_cancel h, Nat.one_mul]
    rw [hrun, Nat.testBit_mul_two_pow, Nat.testBit_two_pow_sub_one, Bool.and_eq_true, decide_eq_true_iff,
      decide_eq_true_iff]
    omega
  · rw [Nat.sub_eq_zero_of_le (Nat.pow_le_pow_right (by decide) h), Nat.zero_testBit]
    simp only [Bool.false_eq_true, false_iff]
    omega

/-- A word's flag is set exactly when the word lies in the range, both bounds of the range being word aligned. -/
theorem touchedMask_getLsbD_iff {p len k w : Nat} (hp : p % 8 = 0) (hlen : len % 8 = 0) (hw : w < 8) :
    (touchedMask p len k).getLsbD w = true ↔ p ≤ touchedBase p k + 8 * w ∧ touchedBase p k + 8 * w < p + len := by
  have hbase : touchedBase p k % 8 = 0 := by unfold touchedBase; omega
  rw [touchedMask, BitVec.getLsbD_ofNat, Bool.and_eq_true, decide_eq_true_iff, testBit_two_pow_sub_two_pow, touchedLo,
    touchedHi]
  omega

/-- The word at the touched granule's address is in its mask. -/
theorem touchedMask_ne_zero {p len k : Nat} (hp : p % 8 = 0) (hlen : len % 8 = 0) (hpos : 0 < len)
    (hk : k < touchedCount p len) : touchedMask p len k ≠ 0 := by
  obtain ⟨w, hw, haddr⟩ : ∃ w, w < 8 ∧ touchedBase p k + 8 * w = touchedLo p k := by
    obtain ⟨hbase, hlt⟩ := div_eq_iff_touchedBase.mp (touchedLo_div p k)
    have haligned : (touchedLo p k - touchedBase p k) % 8 = 0 := by unfold touchedLo touchedBase; omega
    exact ⟨(touchedLo p k - touchedBase p k) / 8, by omega, by omega⟩
  intro hzero
  have hset := (touchedMask_getLsbD_iff hp hlen hw).mpr (haddr ▸ touchedLo_mem_range hpos hk)
  rw [hzero] at hset
  simp at hset

/-! ## Whole and partial granules -/

theorem touchedWhole_iff (p len k : Nat) :
    touchedWhole p len k = true ↔ p ≤ touchedBase p k ∧ touchedBase p k + 64 ≤ p + len := by
  rw [touchedWhole, decide_eq_true_iff, touchedLo, touchedHi]
  omega

/-- A partial granule holds the range's beginning or its end, not at a granule's bound: it is the first or the last. -/
theorem first_or_last_of_partial {p len k : Nat} (hlen : 0 < len) (hk : k < touchedCount p len)
    (h : touchedWhole p len k = false) :
    (k = 0 ∧ p % 64 ≠ 0) ∨ (k + 1 = touchedCount p len ∧ (p + len) % 64 ≠ 0) := by
  have hcut : ¬(p ≤ touchedBase p k ∧ touchedBase p k + 64 ≤ p + len) := by
    rw [← touchedWhole_iff, h]; exact Bool.false_ne_true
  have hend := touchedBase_lt_end hlen hk
  rcases Nat.lt_or_ge (touchedBase p k) p with hstart | hstart
  · left
    unfold touchedBase at hstart
    omega
  · right
    have hstop : p + len < touchedBase p k + 64 := by omega
    unfold touchedBase at hstop hend
    unfold touchedCount
    omega

/-! ## The place of a granule's bytes -/

/-- A granule lies inside one chunk, and so do the bytes after its first. -/
theorem Stride.same_chunk_of_granule (st : Stride) {a d : Nat} (ha : a % 64 = 0) (hd : d < 64) :
    a % st.bytes + d < st.bytes :=
  mod_add_lt_of_dvd st.granule_dvd_bytes st.bytes_pos (by omega)

/-- The bytes of an aligned granule have one granule number: its bank-local offset is aligned too. -/
theorem Stride.granOf_same_granule (st : Stride) {a d : Nat} (ha : a % 64 = 0) (hd : d < 64) :
    st.granOf (a + d) = st.granOf a := by
  have haligned : st.offsetOf a % 64 = 0 := by
    rw [← Nat.mod_mod_of_dvd _ st.granule_dvd_bytes, st.offsetOf_mod, Nat.mod_mod_of_dvd _ st.granule_dvd_bytes, ha]
  apply Fin.ext
  rw [st.granOf_val, st.granOf_val, st.offsetOf_same_chunk (st.same_chunk_of_granule ha hd)]
  omega

/-- Every byte of a touched granule has the bank, the row and the granule of its first. -/
theorem Stride.place_of_touched (st : Stride) {p k a : Nat} (h : a / 64 = p / 64 + k) :
    st.bankOf a = st.bankOf (touchedBase p k) ∧ st.rowOf a = st.rowOf (touchedBase p k)
      ∧ st.granOf a = st.granOf (touchedBase p k) := by
  obtain ⟨hbase, hlt⟩ := div_eq_iff_touchedBase.mp h
  obtain ⟨d, rfl⟩ := Nat.exists_eq_add_of_le hbase
  have haligned : touchedBase p k % 64 = 0 := Nat.mul_mod_left _ _
  have hd : d < 64 := Nat.lt_of_add_lt_add_left hlt
  have hchunk := st.same_chunk_of_granule haligned hd
  exact ⟨st.bankOf_same_chunk hchunk, st.rowOf_same_chunk hchunk, st.granOf_same_granule haligned hd⟩

end Sys2Proof.Machine

open Sys2Proof.Machine

/-- Settles O28: the range and a granule are two intervals of addresses, so the mask and whole or partial are comparisons
of their bounds, and a granule's alignment keeps its bytes in one place. -/
theorem granulesOfARange : Obligations.GranulesOfARange := by
  refine fun p len hp hlen hpos => ⟨fun k hk => ?_, rfl, fun _ => exists_touched_of_mem_range⟩
  obtain ⟨hlo, hhi⟩ := touchedLo_mem_range hpos hk
  exact ⟨fun _ => touchedMask_getLsbD_iff hp hlen, touchedWhole_iff p len k, touchedMask_ne_zero hp hlen hpos hk,
    first_or_last_of_partial hpos hk, ⟨hlo, hhi, touchedLo_div p k⟩, fun _ => touchedLo_le,
    fun st _ => st.place_of_touched⟩
end

section
/-! PROOF. Rings and positions (chapters 8 and 11): the window check and the checks of ENABLE as comparisons of numbers,
the configuration pair that ENABLE creates, and a tail write by the ring's state and the value. -/

namespace Sys2Proof.Machine

/-- A write that reaches the function over the link is taken while the link is up (R202). -/
theorem HostSide.onLink_of_up {h : HostSide} (hup : h.port.linkUp = true) (f : HostSide → HostSide) :
    h.onLink f = f h := if_pos hup

/-! ## The checks of the configuration registers (R197, R201) -/

/-- The window's upper bound is a 64-bit number, so that the access ends below 2^64 is no condition of its own. -/
theorem HostPort.inWindow_iff (p : HostPort) (a n : Nat) :
    p.inWindow a n = true ↔ p.windowLow.toNat ≤ a ∧ a + n - 1 ≤ p.windowHigh.toNat := by
  have hhigh : p.windowHigh.toNat < 2 ^ 64 := p.windowHigh.isLt
  simp only [HostPort.inWindow, Bool.and_eq_true, decide_eq_true_iff]
  omega

theorem HostPort.rq0Size_eq (p : HostPort) : p.rq0Size = p.sizes.toNat % 8192 := by
  simp [HostPort.rq0Size, BitVec.extractLsb'_toNat]

theorem HostPort.cq0Size_eq (p : HostPort) : p.cq0Size = p.sizes.toNat / 65536 % 8192 := by
  simp [HostPort.cq0Size, BitVec.extractLsb'_toNat, Nat.shiftRight_eq_div_pow]

theorem HostPort.cq0Vector_eq (p : HostPort) : p.cq0Vector = p.sizes.toNat / 2 ^ 32 % 32 := by
  simp [HostPort.cq0Vector, BitVec.extractLsb'_toNat, Nat.shiftRight_eq_div_pow]

/-- The four checks: the sizes' bounds, the alignment of the bases, and both rings inside the window. -/
theorem HostPort.enableCheck_iff (p : HostPort) : p.enableCheck = true ↔
    (2 ≤ p.rq0Size ∧ p.rq0Size ≤ 4096 ∧ 2 ≤ p.cq0Size ∧ p.cq0Size ≤ 4096)
      ∧ (p.rqBase.toNat % 64 = 0 ∧ p.cqBase.toNat % 64 = 0)
      ∧ (p.windowLow.toNat ≤ p.rqBase.toNat ∧ p.rqBase.toNat + 64 * p.rq0Size - 1 ≤ p.windowHigh.toNat)
      ∧ (p.windowLow.toNat ≤ p.cqBase.toNat ∧ p.cqBase.toNat + 32 * p.cq0Size - 1 ≤ p.windowHigh.toNat) := by
  simp only [HostPort.enableCheck, Bool.and_eq_true, decide_eq_true_iff, HostPort.inWindow_iff, and_assoc]

/-! ## The configuration pair (R168) -/

theorem HostSide.rq_createPair_zero (h : HostSide) :
    h.createPair.rq 0 = Rq.created h.port.rqBase.toNat h.port.rq0Size 0 1 := by
  simp only [HostSide.createPair, HostSide.rq_setCq, HostSide.rq_setRq_self]

theorem HostSide.cq_createPair_zero (h : HostSide) :
    h.createPair.cq 0 = Cq.created h.port.cqBase.toNat h.port.cq0Size 1 h.port.cq0Vector h.port.cq0IntEn := by
  simp only [HostSide.createPair, HostSide.cq_setCq_self]

theorem HostSide.rings_createPair_of_ne_zero (h : HostSide) {i : RingId} (hi : i ≠ 0) :
    h.createPair.rq i = h.rq i ∧ h.createPair.cq i = h.cq i := by
  simp only [HostSide.createPair, HostSide.rq_setCq, HostSide.rq_setRq, HostSide.cq_setCq, HostSide.cq_setRq,
    if_neg hi.symm, and_self]

/-! ## ENABLE_SET (R201) -/

/-- With READY 1 and ENABLE 0 a write of 1 enables. -/
theorem HostSide.writeControl_true_of_disabled {h : HostSide} (hready : h.port.ready = true)
    (henable : h.port.enable = false) : h.writeControl true = h.enable := by
  simp [HostSide.writeControl, hready, henable]

theorem exec_enableSet {s : State} (hup : s.host.port.linkUp = true) (hready : s.host.port.ready = true)
    (henable : s.host.port.enable = false) : exec .enableSet s = .next (s.setHost s.host.enable) := by
  show execEnableSet s = _
  rw [execEnableSet, HostSide.onLink_of_up hup, HostSide.writeControl_true_of_disabled hready henable]

theorem HostSide.enable_of_check {h : HostSide} (hcheck : h.port.enableCheck = true) :
    h.enable = (h.setPort { h.port with enable := true, configError := false }).createPair := if_pos hcheck

theorem HostSide.enable_of_not_check {h : HostSide} (hcheck : ¬h.port.enableCheck = true) :
    h.enable = h.setPort { h.port with configError := true } := if_neg hcheck

/-! ## RQ_TAIL_WRITE (R150) -/

theorem exec_rqTailWrite {s : State} (hup : s.host.port.linkUp = true) (n : RingId) (v : BitVec 32) :
    exec (.rqTailWrite n v) s = .next (s.setHost (s.host.writeTail n v)) := by
  show execRqTailWrite n v s = _
  rw [execRqTailWrite, HostSide.onLink_of_up hup]

theorem HostSide.writeTail_of_not_active {h : HostSide} {n : RingId} (hstate : (h.rq n).state ≠ .active)
    (v : BitVec 32) : h.writeTail n v = h := if_neg hstate

theorem HostSide.writeTail_of_lt {h : HostSide} {n : RingId} {v : BitVec 32} (hstate : (h.rq n).state = .active)
    (hv : v.toNat < (h.rq n).size) : h.writeTail n v = h.setRq n { h.rq n with tail := v.toNat } := by
  rw [HostSide.writeTail, if_pos hstate, if_pos hv]

theorem HostSide.writeTail_of_size_le {h : HostSide} {n : RingId} {v : BitVec 32} (hstate : (h.rq n).state = .active)
    (hv : (h.rq n).size ≤ v.toNat) : h.writeTail n v =
      (h.setRq n { h.rq n with state := .faulted }).raise (.queueFault .request n .positionInvalid) := by
  rw [HostSide.writeTail, if_pos hstate, if_neg (Nat.not_lt.mpr hv)]

end Sys2Proof.Machine

open Sys2Proof.Machine

/-- Settles O7: the statement's four checks are the model's, with the sizes read as numbers; a pass creates the pair
after the port is enabled, and a failure writes the port alone. -/
theorem enableCreatesConfigurationPair : Obligations.EnableCreatesConfigurationPair := by
  intro s hup hready henable p n m pass
  have hpass : pass ↔ p.enableCheck = true := by
    rw [p.enableCheck_iff, p.rq0Size_eq, p.cq0Size_eq]
  refine ⟨fun h => ?created, fun h => ?configError⟩
  case created =>
    have hexec := exec_enableSet hup hready henable
    rw [HostSide.enable_of_check (hpass.mp h)] at hexec
    refine ⟨_, hexec, rfl, ?rq0, ?cq0, fun i hi => HostSide.rings_createPair_of_ne_zero _ hi, rfl, rfl, rfl, rfl, rfl,
      rfl, rfl, rfl⟩
    case rq0 =>
      exact (HostSide.rq_createPair_zero _).trans (congrArg (Rq.created p.rqBase.toNat · 0 1) p.rq0Size_eq)
    case cq0 =>
      exact (HostSide.cq_createPair_zero _).trans
        (congrArg₂ (Cq.created p.cqBase.toNat · 1 · p.cq0IntEn) p.cq0Size_eq p.cq0Vector_eq)
  case configError =>
    rw [exec_enableSet hup hready henable, HostSide.enable_of_not_check (mt hpass.mpr h)]

/-- Settles O12: the ring's state and the comparison of the value with its size pick the branch of the write. -/
theorem tailWrite : Obligations.TailWrite := by
  intro s n v hup
  rw [exec_rqTailWrite hup]
  refine ⟨fun hstate => ?ignored, fun hstate hv => ?faulted, fun hstate hv => ⟨?newTail, rfl⟩⟩
  case ignored => rw [HostSide.writeTail_of_not_active hstate]; rfl
  case faulted => rw [HostSide.writeTail_of_size_le hstate hv]
  case newTail => rw [HostSide.writeTail_of_lt hstate hv]
end

section
/-! PROOF. QUEUE CREATE (chapter 9): its checks in order, as conditions on the command and the rings, and the ring that it
creates. -/

namespace Sys2Proof.Machine

/-! ## The checks (R173) -/

theorem HostSide.ringPresent_iff (h : HostSide) (kind : Nat) (n : RingId) : h.ringPresent kind n = true ↔
    if kind = 1 then (h.rq n).state ≠ .absent else (h.cq n).state ≠ .absent := by
  unfold HostSide.ringPresent
  split <;> exact bne_iff_ne

/-- Checks 4 to 6 fail: the size in places, the base's alignment or the host address window. -/
abbrev HostSide.misshapen (h : HostSide) (kind size base : Nat) : Prop :=
  size < 2 ∨ 4096 < size ∨ base % 64 ≠ 0
    ∨ ¬(h.port.windowLow.toNat ≤ base ∧ base + (if kind = 1 then 64 else 32) * size - 1 ≤ h.port.windowHigh.toNat)

/-- Checks 7 and 8 of a request ring pass: its burst and its bound completion ring. -/
abbrev HostSide.bindable (h : HostSide) (byte16 byte17 : Byte) : Prop :=
  (1 ≤ byte17.toNat ∧ byte17.toNat ≤ 8) ∧ (1 ≤ byte16.toNat ∧ byte16.toNat ≤ 31)
    ∧ (h.cq (Fin.ofNat 32 byte16.toNat)).state = .active

theorem HostSide.createRefusal?_of_no_ring (h : HostSide) {kind id : Nat} (size base : Nat) (byte16 byte17 : Byte)
    (hid : kind ∉ [1, 2] ∨ id < 1 ∨ 31 < id) : h.createRefusal? kind id size base byte16 byte17 = some .badQueue := by
  rw [List.mem_pair, not_or] at hid
  unfold HostSide.createRefusal?
  split
  case isTrue => rfl
  case isFalse hkind => exact if_pos (hid.resolve_left hkind)

/-- A kind and an id that name a ring pass checks 1 and 2; the others follow, those of one status and one ring kind
taken together. -/
theorem HostSide.createRefusal?_of_ring (h : HostSide) {kind : Nat} {n : RingId} (size base : Nat) (byte16 byte17 : Byte)
    (hkind : kind ∈ [1, 2]) (hn : 0 < n) : h.createRefusal? kind n.val size base byte16 byte17 =
      if h.ringPresent kind n then some .badQueue
      else if h.misshapen kind size base then some .badParameter
      else if kind = 1 then if h.bindable byte16 byte17 then none else some .badParameter
      else if byte16.toNat ≤ 31 then none else some .badParameter := by
  have hkinds : ¬(kind ≠ 1 ∧ kind ≠ 2) := fun hother => (List.mem_pair.mp hkind).elim hother.1 hother.2
  have hid : ¬(n.val < 1 ∨ 31 < n.val) := not_or.mpr ⟨Nat.not_lt.mpr hn, Nat.not_lt.mpr (Nat.le_of_lt_succ n.isLt)⟩
  rw [HostSide.createRefusal?, if_neg hkinds, if_neg hid, Fin.ofNat_val_eq_self]
  simp only [HostSide.misshapen, HostSide.bindable, ← HostPort.inWindow_iff, Bool.not_eq_true]
  grind

section
variable {h : HostSide} {kind : Nat} {n : RingId} {size base : Nat} (byte16 byte17 : Byte)

theorem HostSide.createRefusal?_present (hkind : kind ∈ [1, 2]) (hn : 0 < n) (hpresent : h.ringPresent kind n = true) :
    h.createRefusal? kind n.val size base byte16 byte17 = some .badQueue := by
  rw [h.createRefusal?_of_ring size base byte16 byte17 hkind hn, if_pos hpresent]

theorem HostSide.createRefusal?_misshapen (hkind : kind ∈ [1, 2]) (hn : 0 < n) (hfree : ¬h.ringPresent kind n = true)
    (hshape : h.misshapen kind size base) :
    h.createRefusal? kind n.val size base byte16 byte17 = some .badParameter := by
  rw [h.createRefusal?_of_ring size base byte16 byte17 hkind hn, if_neg hfree, if_pos hshape]

theorem HostSide.createRefusal?_request (hn : 0 < n) (hfree : ¬h.ringPresent 1 n = true)
    (hshape : ¬h.misshapen 1 size base) : h.createRefusal? 1 n.val size base byte16 byte17 =
      if h.bindable byte16 byte17 then none else some .badParameter := by
  rw [h.createRefusal?_of_ring size base byte16 byte17 (by decide) hn, if_neg hfree, if_neg hshape, if_pos rfl]

theorem HostSide.createRefusal?_completion (hn : 0 < n) (hfree : ¬h.ringPresent 2 n = true)
    (hshape : ¬h.misshapen 2 size base) : h.createRefusal? 2 n.val size base byte16 byte17 =
      if byte16.toNat ≤ 31 then none else some .badParameter := by
  rw [h.createRefusal?_of_ring size base byte16 byte17 (by decide) hn, if_neg hfree, if_neg hshape, if_neg (by decide)]
end

/-! ## The ring created (R174) -/

theorem HostSide.createRing_request (h : HostSide) (n : RingId) {c : RingId} (size base : Nat) {byte16 : Byte}
    (byte17 : Byte) (hc : Fin.ofNat 32 byte16.toNat = c) : h.createRing 1 n size base byte16 byte17 =
      (h.setCq c { h.cq c with bound := (h.cq c).bound + 1 }).setRq n (Rq.created base size c byte17.toNat) := by
  subst hc
  rfl

theorem HostSide.createRing_completion (h : HostSide) (n : RingId) (size base : Nat) (byte16 byte17 : Byte) :
    h.createRing 2 n size base byte16 byte17 =
      h.setCq n (Cq.created base size 0 byte16.toNat (byte17.getLsbD 0)) := rfl

/-! ## The command's end -/

section
variable {s : State} {id : BitVec 16} {kind num size base : Nat} {byte16 byte17 : Byte}

theorem exec_queueCreate (hconfig : s.host.config = .executing id (.queueCreate kind num size base byte16 byte17) none) :
    exec .queueCreate s = .next (s.setHost (s.host.queueCreate id kind num size base byte16 byte17)) := by
  show execQueueCreate s = _
  rw [execQueueCreate, hconfig]

theorem exec_queueCreate_refused {st : Status}
    (hconfig : s.host.config = .executing id (.queueCreate kind num size base byte16 byte17) none)
    (hst : s.host.createRefusal? kind num size base byte16 byte17 = some st) :
    exec .queueCreate s = .next (s.setHost (s.host.completeCommand id st 0)) := by
  rw [exec_queueCreate hconfig, HostSide.queueCreate, hst]

theorem exec_queueCreate_accepted {n : RingId}
    (hconfig : s.host.config = .executing id (.queueCreate kind n.val size base byte16 byte17) none)
    (hpass : s.host.createRefusal? kind n.val size base byte16 byte17 = none) :
    exec .queueCreate s =
      .next (s.setHost ((s.host.createRing kind n size base byte16 byte17).completeCommand id .ok 0)) := by
  rw [exec_queueCreate hconfig, HostSide.queueCreate, hpass, Fin.ofNat_val_eq_self]
end

end Sys2Proof.Machine

open Sys2Proof.Machine

/-- Settles O53: each clause decides the first check that fails, and so the refusal, or that none fails, and the ring is
then the created one of its kind. -/
theorem queueCreation : Obligations.QueueCreation := by
  intro s id kind num size base byte16 byte17 hconfig ends
  refine ⟨fun hid => exec_queueCreate_refused hconfig (s.host.createRefusal?_of_no_ring size base byte16 byte17 hid), ?_⟩
  rintro n hn rfl hkind present place badShape
  have hpresent : present ↔ s.host.ringPresent kind n = true := (s.host.ringPresent_iff kind n).symm
  rw [hpresent]
  refine ⟨fun hring => ?present, fun hfree hshape => ?misshapen, fun hfree hshape hrequest => ?request,
    fun hfree hshape hcompletion => ?completion⟩
  case present =>
    exact exec_queueCreate_refused hconfig (HostSide.createRefusal?_present byte16 byte17 hkind hn hring)
  case misshapen =>
    exact exec_queueCreate_refused hconfig (HostSide.createRefusal?_misshapen byte16 byte17 hkind hn hfree hshape)
  case request =>
    subst hrequest
    have hchecks := HostSide.createRefusal?_request byte16 byte17 hn hfree hshape
    have refused : ¬s.host.bindable byte16 byte17 → ends s.host .badParameter := fun hbind =>
      exec_queueCreate_refused hconfig (hchecks.trans (if_neg hbind))
    refine ⟨fun hrange => refused fun ⟨_, _, _⟩ => by omega, fun c hc hpos hlow hhigh => ?_⟩
    have hbound : Fin.ofNat 32 byte16.toNat = c := hc ▸ Fin.ofNat_val_eq_self c
    have hrange : 1 ≤ byte16.toNat ∧ byte16.toNat ≤ 31 := hc ▸ ⟨hpos, Nat.le_of_lt_succ c.isLt⟩
    refine ⟨fun hstate => refused fun ⟨_, _, hactive⟩ => hstate (hbound ▸ hactive), fun hstate => ?_⟩
    have hbind : s.host.bindable byte16 byte17 := ⟨⟨hlow, hhigh⟩, hrange, hbound.symm ▸ hstate⟩
    have hexec := exec_queueCreate_accepted hconfig (hchecks.trans (if_pos hbind))
    rwa [s.host.createRing_request n size base byte17 hbound] at hexec
  case completion =>
    subst hcompletion
    have hchecks := HostSide.createRefusal?_completion byte16 byte17 hn hfree hshape
    refine ⟨fun hvector => ?refused, fun hvector => ?accepted⟩
    case refused => exact exec_queueCreate_refused hconfig (hchecks.trans (if_neg (Nat.not_le.mpr hvector)))
    case accepted =>
      have hexec := exec_queueCreate_accepted hconfig (hchecks.trans (if_pos hvector))
      rwa [s.host.createRing_completion n size base byte16 byte17] at hexec
end

section
/-! PROOF. A pool side without migrations, and why a step need not keep the row map's rules: the end of a format asks
whether there is a format cursor, not whether the pool is FORMATTING, and so takes an OFFLINE pool that has a cursor to
ONLINE or DEGRADED while the image of a MAP LOAD is read. -/

namespace Sys2Proof.Machine

/-- With every spare FREE, no migration, every bank unit as after power-on and no slot occupied, the row map's rules hold
for every configuration unit that reads an image only while the pool is OFFLINE. -/
theorem State.mapSafe_of_no_migration {s : State} (hspares : ∀ b i, s.pool.spare b i = .free)
    (hslots : ∀ k : Fin 4, s.pool.migration.slots[k] = none) (hbanks : ∀ b, s.pool.bank b = Bank.reset)
    (htracker : s.host.tracker.slots = [])
    (himage : ∀ id n a ps, s.host.config = .executing id (.mapLoad n a) (some ps) → s.pool.control.state = .offline) :
    s.mapSafe := by
  refine ⟨⟨?targets, ?oneSlot, ?oneSpare, ?sources⟩, ?records, ?operations, ?held, fun _ => hslots, himage⟩
  case targets => simp [hspares, hslots]
  case oneSlot => simp [hslots]
  case oneSpare => simp [hspares]
  case sources => simp [hslots]
  case records => simp [hbanks, hslots, PoolSide.recordsSafe, Bank.reset]
  case operations => simp [hbanks, Bank.ops, Bank.reset]
  case held => simp [htracker]

/-- A format cursor at bank 0 with every other bank done. -/
def cursorAtLast (x : FormatBank) (turn : BankNo) : FormatCursor :=
  { banks := (Vector.replicate 256 (FormatBank.start true)).set 0 x, turn := turn }

theorem cursorAtLast_allDone {x : FormatBank} (hx : x.done = true) (turn : BankNo) :
    (cursorAtLast x turn).allDone = true := by
  simp only [FormatCursor.allDone, cursorAtLast, List.all_eq_true, Vector.mem_toList_iff]
  intro y hy
  obtain ⟨i, hi, rfl⟩ := Vector.getElem_of_mem hy
  rw [Vector.getElem_set]
  split
  · exact hx
  · simp [FormatBank.start]

/-- An OFFLINE pool with a format cursor: bank 0, whose turn it is, has one write of its last row to end, every other bank
is done, and every channel is FAILED. -/
def cursorOffline : PoolSide :=
  (PoolSide.reset.setCursor
    (some (cursorAtLast { row := 65535, issued := 0, ended := 31, done := false } 0))).setChannels
    (Vector.replicate 16 .failed)

/-- That pool side while the configuration unit reads the image of a MAP LOAD. -/
def imageBesideCursor : State :=
  (State.reset.setPool cursorOffline).setHost (HostSide.reset.setConfig (.executing 0 (.mapLoad 1 0) (some [])))

theorem imageBesideCursor_mapSafe : imageBesideCursor.mapSafe := by
  refine State.mapSafe_of_no_migration (fun b i => ?_) (fun k => ?_) (fun b => ?_) rfl fun _ _ _ _ _ => rfl
  · simp [imageBesideCursor, cursorOffline, PoolSide.setCursor, PoolSide.spare, PoolSide.reset]
  · simp [imageBesideCursor, cursorOffline, PoolSide.setCursor, PoolSide.reset]
  · simp [imageBesideCursor, cursorOffline, PoolSide.setCursor, PoolSide.bank, PoolSide.reset]

theorem PoolSide.anyFailed_setControl (p : PoolSide) (x : PoolControl) : (p.setControl x).anyFailed = p.anyFailed := rfl

/-- The turn at bank 0 places a write in a FAILED channel, whose end is the last of the format. -/
theorem cursorOffline_formatTurn : ((Work.start cursorOffline).formatTurn).pool.control.state = .degraded := by
  have hfailed : cursorOffline.bankFailed 0 = true := by decide
  have hany : cursorOffline.anyFailed = true := by decide
  have hgeneral : (cursorOffline.bank 0).hasGeneral = true := by
    simp [cursorOffline, PoolSide.bank, PoolSide.setCursor, PoolSide.reset, Bank.reset, Bank.hasGeneral,
      Bank.generalCount, Config.generalPlaces]
  have hcursor : cursorOffline.control.cursor =
      some (cursorAtLast { row := 65535, issued := 0, ended := 31, done := false } 0) := rfl
  have hended := cursorAtLast_allDone (x := { row := 65535, issued := 1, ended := 32, done := true }) rfl 1
  simp only [cursorAtLast] at hended
  simp [Work.formatTurn, hcursor, cursorAtLast, hgeneral, hfailed, Work.formatWriteEnd, Work.formatCheck,
    PoolSide.setCursor, FormatBank.writeEnd, hended, Work.formatEnd, PoolSide.anyFailed_setControl, hany]

end Sys2Proof.Machine

open Sys2Proof Sys2Proof.Machine

/-- Refutes O59: the row map's rules hold of `imageBesideCursor`, OFFLINE with an image being read, and a turn of the
format leaves the image being read in a DEGRADED pool. -/
theorem not_stepKeepsPoolCollections : ¬ Obligations.StepKeepsPoolCollections := by
  intro h
  have hstep : step (imageBesideCursor.setPending [.formatTurn]) =
      .next (imageBesideCursor.deliverEvents (Work.start cursorOffline).formatTurn) := rfl
  obtain ⟨-, -, -, -, hmap⟩ := h _ _ hstep
  obtain ⟨-, -, -, -, -, himage⟩ := hmap imageBesideCursor_mapSafe
  have hoffline := himage 0 1 0 [] (by rw [State.deliverEvents_host, HostSide.raiseAll_config]; rfl)
  rw [State.deliverEvents_pool, cursorOffline_formatTurn] at hoffline
  exact absurd hoffline (by decide)
end

section
/-! PROOF. What the host side can do in a step, act by act: the acts that leave the fetch in flight, the acts of a fetch and
the resets. Each bound of the host side is a fact about single acts. -/

namespace Sys2Proof.Machine

/-! ## The acts -/

/-- The acts of the host side that leave the fetch in flight as it is. Each command of the host side is a run of them and of
the acts of `HostSide.Act`. -/
inductive HostSide.Follow : HostSide → HostSide → Prop
  | send (h : HostSide) (x : List LinkMsg) : Follow h (h.setOut x)
  | port (h : HostSide) (p : HostPort) (henable : p.enable = h.port.enable)
      (hsent : p.sent.length = h.port.sent.length) (hwaiting : p.waiting = h.port.waiting) : Follow h (h.setPort p)
  | ask (h : HostSide) (o : Owner) (addr len : Nat) : Follow h (h.placeRead o addr len)
  | abandon (h : HostSide) (f : Owner → Bool) : Follow h (h.abandonReads f)
  | free (h : HostSide) (id : Nat) : Follow h (h.freePlace id)
  | raise (h : HostSide) (e : Event) : Follow h (h.raise e)
  | eventRing (h : HostSide) (r : EvRing) : Follow h (h.setEq r)
  | postEvents (h : HostSide) (k : Nat) : Follow h (h.postEvents k)
  | enables (h : HostSide) (x : BitVec 8) : Follow h (h.setEvents { h.events with enables := x })
  | slots (h : HostSide) (f : Slot → Slot) (hf : ∀ x, (f x).num = x.num ∧ (f x).ring = x.ring) :
      Follow h (h.setTracker { h.tracker with slots := h.tracker.slots.map f })
  | issue (h : HostSide) (n : SlotNo) (hn : h.tracker.slot? n ≠ none) : Follow h (h.setTracker { h.tracker with
      outstanding := h.tracker.outstanding.set n (h.tracker.outstanding[n] + 1), opsOut := h.tracker.opsOut + 1 })
  | back (h : HostSide) (n : SlotNo) : Follow h (h.setTracker { h.tracker with
      outstanding := h.tracker.outstanding.set n (h.tracker.outstanding[n] - 1), opsOut := h.tracker.opsOut - 1 })
  | complete (h : HostSide) (s : Slot) (c : Completion) (hs : s ∈ h.tracker.slots) (hc : c.ring = s.ring) :
      Follow h ((h.handOver c).setTracker
        { h.tracker with slots := h.tracker.slots.filter fun x => x.num != s.num })
  | endCommand (h : HostSide) (id : BitVec 16) (st : Status) (n : Nat) (hbusy : h.config ≠ .idle) :
      Follow h (h.completeCommand id st n)
  | endDrain (h : HostSide) (id : BitVec 16) (ring : RingId) (count : Nat) (hwait : h.config = .drainWait id ring count)
      (hdrained : h.drained ring = true) : Follow h ((h.removeRq ring).completeCommand id .ok count)
  | request (h : HostSide) (n : RingId) (r : Rq) (hstate : r.state = .absent ↔ (h.rq n).state = .absent)
      (hcq : r.cq = (h.rq n).cq) (hburst : r.burst = (h.rq n).burst) : Follow h (h.setRq n r)
  | consume (h : HostSide) (n : RingId) (q : Cq) (hactive : (h.cq n).state = .active) (hstate : q.state ≠ .absent)
      (hbound : q.bound = (h.cq n).bound) (hreserved : q.reserved = (h.cq n).reserved) (hsize : q.size = (h.cq n).size)
      (hunconsumed : q.unconsumed ≤ (h.cq n).unconsumed) : Follow h (h.setCq n q)
  | image (h : HostSide) (id : BitVec 16) (c : ConfigCmd) (ps : Option (List Piece)) (hbusy : h.config ≠ .idle) :
      Follow h (h.setConfig (.executing id c ps))
  | createRq (h : HostSide) (n c : RingId) (base size burst : Nat) (hbusy : h.config ≠ .idle) (hn : n ≠ 0)
      (hfree : (h.rq n).state = .absent) (hc : (h.cq c).state = .active) (hburst : 1 ≤ burst) :
      Follow h ((h.setCq c { h.cq c with bound := (h.cq c).bound + 1 }).setRq n (Rq.created base size c burst))
  | createCq (h : HostSide) (n : RingId) (base size vector : Nat) (intEn : Bool) (hbusy : h.config ≠ .idle)
      (hfree : (h.cq n).state = .absent) : Follow h (h.setCq n (Cq.created base size 0 vector intEn))
  | deleteCq (h : HostSide) (n : RingId) (hbusy : h.config ≠ .idle) (hpresent : (h.cq n).state ≠ .absent)
      (hbound : (h.cq n).bound = 0) : Follow h (h.setCq n Cq.absent)
  | beginDrain (h : HostSide) (id : BitVec 16) (n : RingId) (count : Nat) (hbusy : h.config ≠ .idle) (hn : n ≠ 0)
      (hpresent : (h.rq n).state ≠ .absent) : Follow h (h.setConfig (.drainWait id n count))
  | pair (h : HostSide) (p : HostPort) (hoff : h.port.enable = false) (hon : p.enable = true) (hsent : p.sent = h.port.sent)
      (hwaiting : p.waiting = h.port.waiting) : Follow h (h.setPort p).createPair

/-- The host side after the first record of fetch `f` has left it: the head advances, and a data ring's slot reservation is
used or returned (R128, R151). -/
def HostSide.advance (h : HostSide) (f : Fetch) (rest : List (Option Block)) : HostSide :=
  let q := h.rq f.ring
  let h1 := (h.setRq f.ring { q with head := (q.head + 1) % q.size }).setFetch
    (some { f with handed := f.handed + 1, recs := rest })
  if f.ring = 0 then h1 else h1.setTracker { h1.tracker with reserved := h1.tracker.reserved - 1 }

/-- The fetch `f` has failed: its records not handed over give back their reservations, the fetch ends and an ACTIVE ring
becomes FAULTED (R159). -/
def HostSide.giveUpFetch (h : HostSide) (f : Fetch) : HostSide :=
  let r := h.rq f.ring
  let q := h.cq r.cq
  let h1 := h.setCq r.cq { q with reserved := q.reserved - f.recs.length }
  let h2 := if f.ring = 0 then h1 else h1.setTracker { h1.tracker with reserved := h1.tracker.reserved - f.recs.length }
  (h2.setRq f.ring { r with state := if r.state = .active then .faulted else r.state }).clearFetch f.ring

/-- Every act of the host side: those that leave the fetch, those of the fetch, and the resets. -/
inductive HostSide.Act : HostSide → HostSide → Prop
  | follow {h k : HostSide} (hfollow : HostSide.Follow h k) : Act h k
  | bytes (h : HostSide) (f : Fetch) (recs : List (Option Block)) (hfetch : h.engine.fetch = some f)
      (hlength : recs.length = f.recs.length) : Act h (h.setFetch (some { f with recs := recs }))
  | recordRefused (h : HostSide) (f : Fetch) (r : Option Block) (rest : List (Option Block)) (c : Completion)
      (hfetch : h.engine.fetch = some f) (hrecs : f.recs = r :: rest) (hc : c.ring = f.ring) :
      Act h ((h.advance f rest).handOver c)
  | recordCommand (h : HostSide) (f : Fetch) (r : Option Block) (rest : List (Option Block)) (id : BitVec 16)
      (c : ConfigCmd) (hfetch : h.engine.fetch = some f) (hrecs : f.recs = r :: rest) (hring : f.ring = 0) :
      Act h ((h.advance f rest).setConfig (.executing id c none))
  | recordOccupies (h : HostSide) (f : Fetch) (r : Option Block) (rest : List (Option Block)) (x : Slot)
      (others : List SlotNo) (hfetch : h.engine.fetch = some f) (hrecs : f.recs = r :: rest) (hring : f.ring ≠ 0)
      (hslot : h.tracker.availableSlots = x.num :: others) (hx : x.ring = f.ring) :
      Act h ((h.advance f rest).setTracker { (h.advance f rest).tracker with
        slots := h.tracker.slots ++ [x], tags := h.tracker.tags.set x.num x.tag })
  | recordLost (h : HostSide) (f : Fetch) (r : Option Block) (rest : List (Option Block))
      (hfetch : h.engine.fetch = some f) (hrecs : f.recs = r :: rest) (hring : f.ring ≠ 0)
      (hslot : h.tracker.availableSlots = []) : Act h (h.advance f rest)
  | endFetch (h : HostSide) (f : Fetch) (hfetch : h.engine.fetch = some f) (hrecs : f.recs = []) :
      Act h (h.clearFetch f.ring)
  | failFetch (h : HostSide) (f : Fetch) (hfetch : h.engine.fetch = some f) : Act h (h.giveUpFetch f)
  | startFetch (h : HostSide) (i : RingId) (hfetch : h.engine.fetch = none) (hserved : h.served = some i) :
      Act h (h.reserveFetch i (h.fetchCount i))
  | portReset (h : HostSide) : Act h h.portReset
  | powerOn (h : HostSide) (x : List LinkMsg) (n : Nat) :
      Act h ((HostSide.reset.setPort { HostPort.reset with nextRead := n }).setOut x)

/-! ## The pending event set -/

/-- An event that reaches the pending set keeps its bounds (R189, R190). -/
theorem EventUnit.safe_enter {u : EventUnit} (hu : u.safe) (e : Event) : (u.enter e).safe := by
  obtain ⟨hlength, hkeys, hcounts⟩ := hu
  unfold EventUnit.enter
  split
  case isTrue hkey =>
    refine ⟨by simpa using hlength, ?_, ?_⟩
    · have hsame : (u.entries.map fun en => if en.event.key = e.key then
          ({ event := e, count := min 255 (en.count + 1) } : EventEntry) else en).map (fun en => en.event.key)
          = u.entries.map fun en => en.event.key := by
        simp only [List.map_map]
        refine List.map_congr_left fun en _ => ?_
        by_cases h : en.event.key = e.key <;> simp [h]
      exact hsame ▸ hkeys
    · intro x hx
      obtain ⟨en, hen, rfl⟩ := List.mem_map.mp hx
      split
      · dsimp only; omega
      · exact hcounts en hen
  case isFalse hkey =>
    split
    case isTrue hroom =>
      refine ⟨by simp only [List.length_append, List.length_singleton]; omega, ?_, ?_⟩
      · rw [List.map_append, List.nodup_append]
        refine ⟨hkeys, by simp, ?_⟩
        simp only [EventUnit.hasKey, List.any_eq_true, beq_iff_eq, not_exists, not_and] at hkey
        simpa using hkey
      · intro x hx
        rcases List.mem_append.mp hx with hx | hx
        · exact hcounts x hx
        · rw [List.mem_singleton.mp hx]; exact ⟨Nat.le_refl 1, Nat.le_of_ble_eq_true rfl⟩
    case isFalse hfull => exact ⟨hlength, hkeys, hcounts⟩

theorem EventUnit.safe_take {u : EventUnit} (hu : u.safe) (e : Event) : (u.take e).safe := by
  unfold EventUnit.take
  split
  · exact EventUnit.safe_enter hu e
  · exact hu

theorem HostSide.postEvents_safe (k : Nat) {h : HostSide} (hu : h.events.safe) : (h.postEvents k).events.safe := by
  induction k generalizing h with
  | zero => exact hu
  | succ k ih =>
    unfold HostSide.postEvents
    split
    case h_1 => exact hu
    case h_2 en rest hentries =>
      have hrest := hu
      simp only [EventUnit.safe, hentries] at hrest
      obtain ⟨hlength, hkeys, hcounts⟩ := hrest
      dsimp only
      split
      · split
        · exact ih ⟨Nat.le_of_succ_le hlength, (List.nodup_cons.mp hkeys).2, fun x hx => hcounts x (.tail _ hx)⟩
        · exact EventUnit.safe_take hu _
      · exact hu

theorem HostSide.raise_safe {h : HostSide} (hu : h.events.safe) (e : Event) : (h.raise e).events.safe := by
  unfold HostSide.raise
  split
  · dsimp only
    split
    · exact HostSide.postEvents_safe _ (EventUnit.safe_enter hu e)
    · exact EventUnit.safe_enter hu e
  · exact hu

theorem HostSide.handOver_safe {h : HostSide} (hu : h.events.safe) (c : Completion) : (h.handOver c).events.safe := by
  unfold HostSide.handOver
  dsimp only
  split
  · split
    · exact hu
    · refine HostSide.raise_safe ?_ _
      exact hu
  · exact hu
  · exact hu

theorem HostSide.advance_events (h : HostSide) (f : Fetch) (rest : List (Option Block)) :
    (h.advance f rest).events = h.events := by
  unfold HostSide.advance
  dsimp only
  split <;> rfl

theorem HostSide.Follow.events_safe {h k : HostSide} (hfollow : h.Follow k) (hu : h.events.safe) : k.events.safe := by
  cases hfollow with
  | ask o addr len => obtain ⟨_, _, e⟩ := h.placeRead_eq o addr len; exact e ▸ hu
  | free id => rw [h.freePlace_events]; exact hu
  | raise e => exact HostSide.raise_safe hu e
  | postEvents n => exact HostSide.postEvents_safe n hu
  | complete s c _ _ => exact HostSide.handOver_safe hu c
  | endCommand id st n _ => exact HostSide.handOver_safe (h := h.setConfig .idle) hu _
  | endDrain id ring count _ _ => exact HostSide.handOver_safe (h := (h.removeRq ring).setConfig .idle) hu _
  | _ => exact hu

/-- Every act keeps the bounds of the pending event set (R189). -/
theorem HostSide.Act.events_safe {h k : HostSide} (hact : h.Act k) (hu : h.events.safe) : k.events.safe := by
  cases hact with
  | follow hfollow => exact hfollow.events_safe hu
  | recordRefused f r rest c _ _ _ => exact HostSide.handOver_safe (h.advance_events f rest ▸ hu) c
  | recordCommand f r rest => exact h.advance_events f rest ▸ hu
  | recordOccupies f r rest => exact h.advance_events f rest ▸ hu
  | recordLost f r rest => exact h.advance_events f rest ▸ hu
  | failFetch f _ =>
    have : (h.giveUpFetch f).events = h.events := by unfold HostSide.giveUpFetch; dsimp only; split <;> rfl
    exact this ▸ hu
  | startFetch i _ _ =>
    have : (h.reserveFetch i (h.fetchCount i)).events = h.events := by
      unfold HostSide.reserveFetch; dsimp only; split <;> rfl
    exact this ▸ hu
  | powerOn x n => exact ⟨Nat.zero_le _, List.nodup_nil, fun _ hx => nomatch hx⟩
  | _ => exact hu

end Sys2Proof.Machine
end

section
/-! PROOF. The read places and the tracker's slots under the acts of the host side. -/

namespace Sys2Proof.Machine

/-! ## The read places (R198) -/

theorem HostSide.placeRead_placesSafe {h : HostSide} (hp : h.port.placesSafe) (o : Owner) (addr len : Nat) :
    (h.placeRead o addr len).port.placesSafe := by
  obtain ⟨hsent, hwaiting⟩ := hp
  unfold HostSide.placeRead
  dsimp only
  split
  case isTrue hroom =>
    have hnone : h.port.waiting = [] := by
      by_contra hne
      exact absurd (hwaiting hne) (Nat.ne_of_lt hroom)
    exact ⟨by simpa using hroom, fun hne => absurd hnone hne⟩
  case isFalse hfull => exact ⟨hsent, fun _ => Nat.le_antisymm hsent (Nat.not_lt.mp hfull)⟩

theorem HostSide.abandonReads_placesSafe {h : HostSide} (hp : h.port.placesSafe) (f : Owner → Bool) :
    (h.abandonReads f).port.placesSafe := by
  obtain ⟨hsent, hwaiting⟩ := hp
  refine ⟨by simpa [HostSide.abandonReads] using hsent, fun hne => ?_⟩
  have hold : h.port.waiting ≠ [] := fun hnone => hne (by simp [HostSide.abandonReads, hnone])
  simpa [HostSide.abandonReads] using hwaiting hold

/-- As many sendings as reads wait leave none waiting beside a free place. -/
theorem HostSide.sendWaiting_placesSafe (k : Nat) {h : HostSide} (hsent : h.port.sent.length ≤ Config.readPlaces)
    (hk : h.port.waiting.length ≤ k) : (h.sendWaiting k).port.placesSafe := by
  induction k generalizing h with
  | zero =>
    have hnone : h.port.waiting = [] := List.eq_nil_of_length_eq_zero (Nat.le_zero.mp hk)
    exact ⟨hsent, fun hne => absurd hnone hne⟩
  | succ k ih =>
    unfold HostSide.sendWaiting
    split
    case h_1 hnone => exact ⟨hsent, fun hne => absurd hnone hne⟩
    case h_2 r rest hwaiting =>
      rw [hwaiting] at hk
      split
      case isTrue hroom => exact ih (by simpa using hroom) (by simpa using hk)
      case isFalse hfull => exact ⟨hsent, fun _ => Nat.le_antisymm hsent (Nat.not_lt.mp hfull)⟩

theorem HostSide.freePlace_placesSafe {h : HostSide} (hp : h.port.placesSafe) (id : Nat) :
    (h.freePlace id).port.placesSafe :=
  HostSide.sendWaiting_placesSafe _ (Nat.le_trans (List.length_filter_le _ _) hp.1) (Nat.le_refl _)

theorem HostSide.postEvents_port (h : HostSide) (k : Nat) : (h.postEvents k).port = h.port := by
  obtain ⟨_, _, _, e⟩ := h.postEvents_eq k
  rw [e]; rfl

theorem HostSide.postEvents_tracker (h : HostSide) (k : Nat) : (h.postEvents k).tracker = h.tracker := by
  obtain ⟨_, _, _, e⟩ := h.postEvents_eq k
  rw [e]; rfl

theorem HostSide.completeCommand_port (h : HostSide) (id : BitVec 16) (st : Status) (n : Nat) :
    (h.completeCommand id st n).port = h.port := (h.completeCommand_kept id st n).1

theorem HostSide.completeCommand_tracker (h : HostSide) (id : BitVec 16) (st : Status) (n : Nat) :
    (h.completeCommand id st n).tracker = h.tracker := (h.completeCommand_kept id st n).2.1

theorem HostSide.Follow.placesSafe {h k : HostSide} (hfollow : h.Follow k) (hp : h.port.placesSafe) :
    k.port.placesSafe := by
  cases hfollow with
  | port p henable hsent hwaiting => exact ⟨hsent ▸ hp.1, fun hne => hsent ▸ hp.2 (hwaiting ▸ hne)⟩
  | ask o addr len => exact HostSide.placeRead_placesSafe hp o addr len
  | abandon f => exact HostSide.abandonReads_placesSafe hp f
  | free id => exact HostSide.freePlace_placesSafe hp id
  | raise e => rw [HostSide.raise_port]; exact hp
  | postEvents n => rw [HostSide.postEvents_port]; exact hp
  | complete s c _ _ => rw [HostSide.setTracker_port, HostSide.handOver_port]; exact hp
  | endCommand id st n _ => rw [HostSide.completeCommand_port]; exact hp
  | endDrain id ring count _ _ => rw [HostSide.completeCommand_port]; exact hp
  | pair p hoff hon hsent hwaiting => exact ⟨hsent ▸ hp.1, fun hne => hsent ▸ hp.2 (hwaiting ▸ hne)⟩
  | _ => exact hp

theorem HostSide.advance_port (h : HostSide) (f : Fetch) (rest : List (Option Block)) :
    (h.advance f rest).port = h.port := by
  unfold HostSide.advance
  dsimp only
  split <;> rfl

theorem HostSide.giveUpFetch_port (h : HostSide) (f : Fetch) : (h.giveUpFetch f).port = h.port := by
  unfold HostSide.giveUpFetch
  dsimp only
  split <;> rfl

theorem HostSide.reserveFetch_port (h : HostSide) (i : RingId) (n : Nat) : (h.reserveFetch i n).port = h.port := by
  unfold HostSide.reserveFetch
  dsimp only
  split <;> rfl

/-- Every act keeps the bounds of the read places (R198). -/
theorem HostSide.Act.placesSafe {h k : HostSide} (hact : h.Act k) (hp : h.port.placesSafe) : k.port.placesSafe := by
  cases hact with
  | follow hfollow => exact hfollow.placesSafe hp
  | recordRefused f r rest c _ _ _ => rw [HostSide.handOver_port, HostSide.advance_port]; exact hp
  | recordCommand f r rest => rw [HostSide.setConfig_port, HostSide.advance_port]; exact hp
  | recordOccupies f r rest => rw [HostSide.setTracker_port, HostSide.advance_port]; exact hp
  | recordLost f r rest => rw [HostSide.advance_port]; exact hp
  | failFetch f _ => rw [HostSide.giveUpFetch_port]; exact hp
  | startFetch i _ _ => rw [HostSide.reserveFetch_port]; exact hp
  | portReset => exact HostSide.abandonReads_placesSafe hp fun _ => true
  | powerOn x n => exact ⟨Nat.zero_le _, fun hne => absurd rfl hne⟩
  | _ => exact hp

/-! ## The tracker's slots (R126) -/

theorem Tracker.slot?_eq_none_iff (t : Tracker) (n : SlotNo) : t.slot? n = none ↔ ∀ x ∈ t.slots, x.num ≠ n := by
  simp [Tracker.slot?]

theorem Tracker.available_iff (t : Tracker) (n : SlotNo) :
    t.available n = true ↔ (∀ x ∈ t.slots, x.num ≠ n) ∧ t.outstanding[n] = 0 := by
  simp only [Tracker.available, Bool.and_eq_true, Option.isNone_iff_eq_none, t.slot?_eq_none_iff, beq_iff_eq]

theorem Tracker.mem_availableSlots (t : Tracker) (n : SlotNo) : n ∈ t.availableSlots ↔ t.available n = true := by
  simp [Tracker.availableSlots]

theorem HostSide.Follow.tracker_safe {h k : HostSide} (hfollow : h.Follow k) (ht : h.tracker.safe) :
    k.tracker.safe := by
  cases hfollow with
  | ask o addr len => obtain ⟨_, _, e⟩ := h.placeRead_eq o addr len; exact e ▸ ht
  | free id => rw [HostSide.freePlace_tracker]; exact ht
  | raise e => rw [HostSide.raise_tracker]; exact ht
  | postEvents n => rw [HostSide.postEvents_tracker]; exact ht
  | slots f hf =>
    have hnum : (h.tracker.slots.map f).map Slot.num = h.tracker.slots.map Slot.num := by
      rw [List.map_map]
      exact List.map_congr_left fun x _ => (hf x).1
    exact (show ((h.tracker.slots.map f).map Slot.num).Nodup from hnum.symm ▸ ht)
  | complete s c _ _ => exact ht.sublist (List.filter_sublist.map _)
  | endCommand id st n _ => rw [HostSide.completeCommand_tracker]; exact ht
  | endDrain id ring count _ _ => rw [HostSide.completeCommand_tracker]; exact ht
  | _ => exact ht

theorem HostSide.advance_slots (h : HostSide) (f : Fetch) (rest : List (Option Block)) :
    (h.advance f rest).tracker.slots = h.tracker.slots := by
  unfold HostSide.advance
  dsimp only
  split <;> rfl

theorem HostSide.giveUpFetch_slots (h : HostSide) (f : Fetch) : (h.giveUpFetch f).tracker.slots = h.tracker.slots := by
  unfold HostSide.giveUpFetch
  dsimp only
  split <;> rfl

theorem HostSide.reserveFetch_slots (h : HostSide) (i : RingId) (n : Nat) :
    (h.reserveFetch i n).tracker.slots = h.tracker.slots := by
  unfold HostSide.reserveFetch
  dsimp only
  split <;> rfl

/-- An available slot is none of the occupied ones, so the occupation keeps the slots distinct. -/
theorem Tracker.nodup_occupied {t : Tracker} (ht : t.safe) {x : Slot} (hx : t.available x.num = true) :
    ((t.slots ++ [x]).map Slot.num).Nodup := by
  rw [List.map_append, List.nodup_append]
  refine ⟨ht, List.nodup_singleton _, ?_⟩
  simpa using ((t.available_iff x.num).mp hx).1

/-- Every act keeps the occupied slots distinct (R126). -/
theorem HostSide.Act.tracker_safe {h k : HostSide} (hact : h.Act k) (ht : h.tracker.safe) : k.tracker.safe := by
  cases hact with
  | follow hfollow => exact hfollow.tracker_safe ht
  | recordRefused f r rest c _ _ _ => rw [HostSide.handOver_tracker, Tracker.safe, HostSide.advance_slots]; exact ht
  | recordCommand f r rest =>
    rw [HostSide.setConfig_tracker, Tracker.safe, HostSide.advance_slots]; exact ht
  | recordOccupies f r rest x others _ _ _ hslot _ =>
    exact Tracker.nodup_occupied ht ((h.tracker.mem_availableSlots _).mp (hslot ▸ List.mem_cons_self))
  | recordLost f r rest => rw [Tracker.safe, HostSide.advance_slots]; exact ht
  | failFetch f _ => rw [Tracker.safe, HostSide.giveUpFetch_slots]; exact ht
  | startFetch i _ _ => rw [Tracker.safe, HostSide.reserveFetch_slots]; exact ht
  | portReset => exact List.nodup_nil
  | powerOn x n => exact List.nodup_nil
  | _ => exact ht

end Sys2Proof.Machine
end

section
/-! PROOF. The rule of credit (R154) under the acts of the host side. An act that hands over a completion takes the promise
away before the reservation: between the two one reservation of a completion ring is owed. -/

namespace Sys2Proof.Machine

/-- The slots that the fetch in flight has reserved (R128, R157). -/
def HostSide.slotsTaken (h : HostSide) : Nat :=
  match h.engine.fetch with
  | some f => if f.ring = 0 then 0 else f.recs.length
  | none => 0

/-- The rule of credit inside a step: a fetch may have handed over all its records and not have ended, and one reservation
of the ring `owed` may have lost its promise. -/
structure HostSide.Credit (h : HostSide) (owed : Option RingId) : Prop where
  bound : ∀ n, (h.cq n).state ≠ .absent → (h.cq n).bound = h.boundRings n
  reserved : ∀ n, (h.cq n).state ≠ .absent → (h.cq n).reserved = h.promised n + if owed = some n then 1 else 0
  within : ∀ n, (h.cq n).state = .active → (h.cq n).unconsumed + (h.cq n).reserved ≤ (h.cq n).size
  rings : ∀ m, (h.rq m).state ≠ .absent → (h.cq (h.rq m).cq).state ≠ .absent ∧ 1 ≤ (h.rq m).burst
  slots : ∀ x ∈ h.tracker.slots, (h.rq x.ring).state ≠ .absent
  distinct : h.tracker.safe
  fetch : ∀ f, h.engine.fetch = some f → f.recs ≠ [] →
    (h.rq f.ring).state ≠ .absent ∧ (f.ring = 0 → h.config = .idle ∧ f.recs.length = 1)
  taken : h.tracker.reserved = h.slotsTaken
  available : h.tracker.reserved ≤ h.tracker.availableSlots.length
  command : h.config ≠ .idle → (h.rq 0).state ≠ .absent
  drain : ∀ id ring k, h.config = .drainWait id ring k → ring ≠ 0 ∧ (h.rq ring).state ≠ .absent
  disabled : h.port.enable = false → (∀ n, (h.rq n).state = .absent ∧ (h.cq n).state = .absent)
    ∧ h.engine.fetch = none ∧ h.tracker.slots = [] ∧ h.config = .idle

/-- The fetch in flight has a record left. -/
def HostSide.fetchFilled (h : HostSide) : Prop := ∀ f, h.engine.fetch = some f → f.recs ≠ []

/-- Between steps the rule of credit is the one inside a step with nothing owed and no finished fetch in flight. -/
theorem HostSide.creditSafe_iff (h : HostSide) : h.creditSafe ↔ h.Credit none ∧ h.fetchFilled := by
  constructor
  · rintro ⟨hpromises, hwithin, hrings, hslots, hdistinct, ⟨hfetch, htaken, havailable⟩, hcommand, hdrain, hdisabled⟩
    exact ⟨⟨fun n hn => (hpromises n hn).1, fun n hn => by simpa using (hpromises n hn).2, hwithin, hrings, hslots,
      hdistinct, fun f hf _ => ⟨(hfetch f hf).1, (hfetch f hf).2.2⟩, htaken, havailable, hcommand, hdrain, hdisabled⟩,
      fun f hf => (hfetch f hf).2.1⟩
  · rintro ⟨c, hfilled⟩
    exact ⟨fun n hn => ⟨c.bound n hn, by simpa using c.reserved n hn⟩, c.within, c.rings, c.slots, c.distinct,
      ⟨fun f hf => ⟨(c.fetch f hf (hfilled f hf)).1, hfilled f hf, (c.fetch f hf (hfilled f hf)).2⟩, c.taken,
        c.available⟩, c.command, c.drain, c.disabled⟩

/-! ## What the rule of credit depends on -/

theorem HostSide.boundRings_congr {h k : HostSide} (hstate : ∀ m, (k.rq m).state = .absent ↔ (h.rq m).state = .absent)
    (hcq : ∀ m, (k.rq m).cq = (h.rq m).cq) (n : RingId) : k.boundRings n = h.boundRings n := by
  refine List.countP_congr fun m _ => ?_
  simp only [Bool.and_eq_true, bne_iff_ne, ne_eq, hstate m, hcq m]

/-- The slots of an act that keeps numbers and rings. -/
theorem countP_ring_congr {xs ys : List Slot} (h : ys.map Slot.ring = xs.map Slot.ring) (p : RingId → Bool) :
    ys.countP (fun x => p x.ring) = xs.countP fun x => p x.ring := by
  have hmap : ∀ zs : List Slot, zs.countP (fun x => p x.ring) = (zs.map Slot.ring).countP p := fun zs => by
    rw [List.countP_map]; rfl
  rw [hmap, hmap, h]

theorem HostSide.promised_congr {h k : HostSide} (hcq : ∀ m, (k.rq m).cq = (h.rq m).cq)
    (hfetch : k.engine.fetch = h.engine.fetch) (hslots : k.tracker.slots.map Slot.ring = h.tracker.slots.map Slot.ring)
    (hconfig : k.config = .idle ↔ h.config = .idle) (n : RingId) : k.promised n = h.promised n := by
  unfold HostSide.promised
  simp only [hcq, hfetch, ne_eq, hconfig]
  rw [countP_ring_congr hslots fun m => (h.rq m).cq == n]

theorem Tracker.availableSlots_le {t u : Tracker} (h : ∀ n, t.available n = true → u.available n = true) :
    t.availableSlots.length ≤ u.availableSlots.length := by
  rw [Tracker.availableSlots, Tracker.availableSlots, ← List.countP_eq_length_filter, ← List.countP_eq_length_filter]
  exact List.countP_mono_left fun n _ => h n

/-- Host side `k` differs from `h` in nothing that the rule of credit asks for, or in what only loosens it. -/
structure HostSide.SameCredit (h k : HostSide) : Prop where
  rqState : ∀ m, (k.rq m).state = .absent ↔ (h.rq m).state = .absent
  rqCq : ∀ m, (k.rq m).cq = (h.rq m).cq
  rqBurst : ∀ m, (k.rq m).burst = (h.rq m).burst
  cqState : ∀ n, (k.cq n).state = .absent ↔ (h.cq n).state = .absent
  cqActive : ∀ n, (k.cq n).state = .active → (h.cq n).state = .active
  cqBound : ∀ n, (k.cq n).bound = (h.cq n).bound
  cqReserved : ∀ n, (k.cq n).reserved = (h.cq n).reserved
  cqSize : ∀ n, (k.cq n).size = (h.cq n).size
  cqUnconsumed : ∀ n, (k.cq n).unconsumed ≤ (h.cq n).unconsumed
  fetch : k.engine.fetch = h.engine.fetch
  slotNums : k.tracker.slots.map Slot.num = h.tracker.slots.map Slot.num
  slotRings : k.tracker.slots.map Slot.ring = h.tracker.slots.map Slot.ring
  taken : k.tracker.reserved = h.tracker.reserved
  available : ∀ n, h.tracker.available n = true → k.tracker.available n = true
  config : k.config = h.config
  enable : k.port.enable = h.port.enable

theorem HostSide.SameCredit.of_eq {h k : HostSide} (hrq : ∀ m, k.rq m = h.rq m) (hcq : ∀ n, k.cq n = h.cq n)
    (hfetch : k.engine.fetch = h.engine.fetch) (htracker : k.tracker = h.tracker) (hconfig : k.config = h.config)
    (henable : k.port.enable = h.port.enable) : h.SameCredit k where
  rqState m := by rw [hrq]
  rqCq m := by rw [hrq]
  rqBurst m := by rw [hrq]
  cqState n := by rw [hcq]
  cqActive n := by rw [hcq]; exact id
  cqBound n := by rw [hcq]
  cqReserved n := by rw [hcq]
  cqSize n := by rw [hcq]
  cqUnconsumed n := by rw [hcq]
  fetch := hfetch
  slotNums := by rw [htracker]
  slotRings := by rw [htracker]
  taken := by rw [htracker]
  available n := by rw [htracker]; exact id
  config := hconfig
  enable := henable

theorem HostSide.Credit.same {h k : HostSide} {o : Option RingId} (c : h.Credit o) (s : h.SameCredit k) :
    k.Credit o where
  bound n hn := by
    rw [s.cqBound, HostSide.boundRings_congr s.rqState s.rqCq]
    exact c.bound n (mt (s.cqState n).mpr hn)
  reserved n hn := by
    rw [s.cqReserved, HostSide.promised_congr s.rqCq s.fetch s.slotRings (by rw [s.config])]
    exact c.reserved n (mt (s.cqState n).mpr hn)
  within n hn := by
    have hw := c.within n (s.cqActive n hn)
    have hu := s.cqUnconsumed n
    rw [s.cqReserved, s.cqSize]
    omega
  rings m hm := by
    rw [s.rqCq, s.rqBurst, Ne, s.cqState]
    exact c.rings m (mt (s.rqState m).mpr hm)
  slots x hx := by
    have hmem : x.ring ∈ h.tracker.slots.map Slot.ring := s.slotRings ▸ List.mem_map_of_mem hx
    obtain ⟨y, hy, hring⟩ := List.mem_map.mp hmem
    exact mt (s.rqState x.ring).mp (hring ▸ c.slots y hy)
  distinct := by rw [Tracker.safe, s.slotNums]; exact c.distinct
  fetch f hf hne := by
    rw [s.fetch] at hf
    rw [s.config]
    exact ⟨mt (s.rqState _).mp (c.fetch f hf hne).1, (c.fetch f hf hne).2⟩
  taken := by rw [s.taken, HostSide.slotsTaken, s.fetch]; exact c.taken
  available := by
    rw [s.taken]
    exact Nat.le_trans c.available (Tracker.availableSlots_le s.available)
  command hbusy := by
    rw [s.config] at hbusy
    exact mt (s.rqState 0).mp (c.command hbusy)
  drain id ring k hwait := by
    rw [s.config] at hwait
    exact ⟨(c.drain id ring k hwait).1, mt (s.rqState _).mp (c.drain id ring k hwait).2⟩
  disabled hoff := by
    rw [s.enable] at hoff
    obtain ⟨habsent, hfetch, hslots, hconfig⟩ := c.disabled hoff
    have hnone : k.tracker.slots = [] := by
      rw [← List.map_eq_nil_iff (f := Slot.num), s.slotNums, hslots]; rfl
    exact ⟨fun n => ⟨(s.rqState n).mpr (habsent n).1, (s.cqState n).mpr (habsent n).2⟩, s.fetch.trans hfetch, hnone,
      s.config.trans hconfig⟩

/-- A host side without rings, slots, fetch and command. -/
theorem HostSide.Credit.of_absent {h : HostSide} (hrq : ∀ n, h.rq n = Rq.absent) (hcq : ∀ n, h.cq n = Cq.absent)
    (hfetch : h.engine.fetch = none) (hslots : h.tracker.slots = []) (htaken : h.tracker.reserved = 0)
    (hconfig : h.config = .idle) : h.Credit none where
  bound n hn := absurd (by rw [hcq]; rfl) hn
  reserved n hn := absurd (by rw [hcq]; rfl) hn
  within n hn := by rw [hcq] at hn; cases hn
  rings m hm := absurd (by rw [hrq]; rfl) hm
  slots x hx := by rw [hslots] at hx; cases hx
  distinct := by rw [Tracker.safe, hslots]; exact List.nodup_nil
  fetch f hf := by rw [hfetch] at hf; cases hf
  taken := by rw [htaken, HostSide.slotsTaken, hfetch]
  available := by rw [htaken]; exact Nat.zero_le _
  command hbusy := absurd hconfig hbusy
  drain id ring k hwait := by rw [hconfig] at hwait; cases hwait
  disabled _ := ⟨fun n => by rw [hrq, hcq]; exact ⟨rfl, rfl⟩, hfetch, hslots, hconfig⟩

/-! ## One reservation used -/

/-- Completion ring `n` uses or gives up a reservation that is owed: what every hand-over does to the rings (R153, R161). -/
theorem HostSide.Credit.spend {h : HostSide} {n : RingId} {q : Cq} (c : h.Credit (some n))
    (hn : (h.cq n).state ≠ .absent) (hstate : q.state ≠ .absent) (hactive : q.state = .active → (h.cq n).state = .active)
    (hbound : q.bound = (h.cq n).bound) (hreserved : q.reserved = (h.cq n).reserved - 1) (hsize : q.size = (h.cq n).size)
    (hunconsumed : q.unconsumed ≤ (h.cq n).unconsumed + 1) : (h.setCq n q).Credit none := by
  have hcq : ∀ m, (h.setCq n q).cq m = if n = m then q else h.cq m := fun m => h.cq_setCq n m q
  have habsent : ∀ m, ((h.setCq n q).cq m).state = .absent ↔ (h.cq m).state = .absent := fun m => by
    rw [hcq]; split
    case isTrue hm => subst hm; exact iff_of_false hstate hn
    case isFalse => rfl
  have hown := c.reserved n hn
  simp only [if_true] at hown
  have hsame : ∀ m, (h.setCq n q).promised m = h.promised m := fun m => rfl
  refine { c with bound := fun m hm => ?_, reserved := fun m hm => ?_, within := fun m hm => ?_, rings := fun m hm => ?_,
                  disabled := fun hoff => ?_ }
  · have hb := c.bound m (mt (habsent m).mpr hm)
    rw [hcq]; split
    case isTrue hnm => subst hnm; exact hbound.trans hb
    case isFalse => exact hb
  · have hr := c.reserved m (mt (habsent m).mpr hm)
    rw [hcq, hsame]; split
    case isTrue hnm => subst hnm; simp only [reduceCtorEq, if_false]; omega
    case isFalse hnm => rw [if_neg (by simpa using hnm)] at hr; simpa using hr
  · rw [hcq] at hm ⊢; split at hm
    case isTrue hnm =>
      have hw := c.within n (hactive hm)
      rw [if_pos hnm]; omega
    case isFalse hnm => rw [if_neg hnm]; exact c.within m hm
  · exact ⟨mt (habsent _).mp (c.rings m hm).1, (c.rings m hm).2⟩
  · exact absurd ((c.disabled hoff).1 n).2 hn

theorem HostSide.Credit.raise {h : HostSide} {o : Option RingId} (c : h.Credit o) (e : Event) : (h.raise e).Credit o :=
  c.same (.of_eq (h.rq_raise e) (h.cq_raise e) (h.raise_fetch e) (h.raise_tracker e) (h.raise_config e)
    (by rw [h.raise_port]))

theorem HostSide.Credit.setOut {h : HostSide} {o : Option RingId} (c : h.Credit o) (x : List LinkMsg) :
    (h.setOut x).Credit o := c.same (.of_eq (fun _ => rfl) (fun _ => rfl) rfl rfl rfl rfl)

/-- A hand-over uses the reservation owed on its ring's completion ring. -/
theorem HostSide.Credit.handOver {h : HostSide} {c : Completion} (hc : h.Credit (some (h.rq c.ring).cq))
    (hring : (h.rq c.ring).state ≠ .absent) : (h.handOver c).Credit none := by
  have hcq := (hc.rings _ hring).1
  unfold HostSide.handOver
  dsimp only
  split
  case h_1 hactive =>
    split
    · exact (hc.setOut _).spend hcq (by simp [Cq.posted, hactive]) (fun _ => hactive) rfl rfl rfl (Nat.le_refl _)
    · refine HostSide.Credit.raise ?_ _
      exact hc.spend hcq (by simp) nofun rfl rfl rfl (Nat.le_succ _)
  case h_2 hfaulted =>
    exact hc.spend hcq (by simp [hfaulted]) (fun hf => by simp [hfaulted] at hf) rfl rfl rfl (Nat.le_succ _)
  case h_3 habsent => exact absurd habsent hcq

end Sys2Proof.Machine
end

section
/-! PROOF. The acts that leave the fetch in flight keep the rule of credit (R154). -/

namespace Sys2Proof.Machine

/-! ## Counting -/

/-- Two predicates that differ at one element of a list without repetition. -/
theorem countP_add_of_agree {α : Type} {xs : List α} (hxs : xs.Nodup) {a : α} (ha : a ∈ xs) {p q : α → Bool}
    (hpq : ∀ x, x ≠ a → p x = q x) : xs.countP p + (q a).toNat = xs.countP q + (p a).toNat := by
  induction xs with
  | nil => cases ha
  | cons x xs ih =>
    obtain ⟨hx, hnodup⟩ := List.nodup_cons.mp hxs
    rcases List.mem_cons.mp ha with rfl | ha
    · have hrest : xs.countP p = xs.countP q := List.countP_congr fun y hy => by
        rw [hpq y fun h => hx (h ▸ hy)]
      cases hp : p a <;> cases hq : q a <;> simp [hp, hq, hrest]
    · have hne : x ≠ a := fun h => hx (h ▸ ha)
      have := ih hnodup ha
      simp only [List.countP_cons, hpq x hne]
      omega

/-- One slot leaves the tracker. -/
theorem countP_filter_num {xs : List Slot} (hxs : (xs.map Slot.num).Nodup) {s : Slot} (hs : s ∈ xs) (p : Slot → Bool) :
    xs.countP p = (xs.filter fun x => x.num != s.num).countP p + (p s).toNat := by
  induction xs with
  | nil => cases hs
  | cons x xs ih =>
    obtain ⟨hx, hnodup⟩ := List.nodup_cons.mp hxs
    rcases List.mem_cons.mp hs with rfl | hs
    · have hrest : xs.filter (fun x => x.num != s.num) = xs := List.filter_eq_self.mpr fun y hy => by
        have hne : y.num ≠ s.num := fun h => hx (h ▸ List.mem_map_of_mem hy)
        simpa using hne
      cases hp : p s <;> simp [hp, hrest]
    · have hne : x.num ≠ s.num := fun h => hx (h ▸ List.mem_map_of_mem hs)
      simp only [List.countP_cons, List.filter_cons, bne_iff_ne, ne_eq, hne, not_false_eq_true, if_true, ih hnodup hs]
      omega

theorem Tracker.availableSlots_length (t : Tracker) : t.availableSlots.length = (List.finRange 256).countP t.available := by
  rw [Tracker.availableSlots, ← List.countP_eq_length_filter]

/-! ## The three kinds of promise -/

/-- The entries promised to the records of the fetch in flight (R154). -/
def HostSide.fetchPromised (h : HostSide) (n : RingId) : Nat :=
  match h.engine.fetch with
  | some f => if (h.rq f.ring).cq = n then f.recs.length else 0
  | none => 0

/-- The entries promised to the occupied slots (R154). -/
def HostSide.slotPromised (h : HostSide) (n : RingId) : Nat := h.tracker.slots.countP fun x => (h.rq x.ring).cq == n

/-- The entry promised to the command that the configuration unit holds (R154). -/
def HostSide.commandPromised (h : HostSide) (n : RingId) : Nat := if h.config ≠ .idle ∧ (h.rq 0).cq = n then 1 else 0

theorem HostSide.promised_eq (h : HostSide) (n : RingId) :
    h.promised n = h.fetchPromised n + h.slotPromised n + h.commandPromised n := rfl

theorem Bool.toNat_beq (a b : RingId) : (a == b).toNat = if a = b then 1 else 0 := by
  by_cases h : a = b <;> simp [h]

/-! ## Port and slots -/

theorem HostSide.placeRead_enable (h : HostSide) (o : Owner) (addr len : Nat) :
    (h.placeRead o addr len).port.enable = h.port.enable := by
  unfold HostSide.placeRead
  dsimp only
  split <;> rfl

theorem HostSide.sendWaiting_enable (k : Nat) (h : HostSide) : (h.sendWaiting k).port.enable = h.port.enable := by
  induction k generalizing h with
  | zero => rfl
  | succ k ih =>
    unfold HostSide.sendWaiting
    split
    · rfl
    · split
      · rw [ih]; rfl
      · rfl

theorem HostSide.freePlace_enable (h : HostSide) (id : Nat) : (h.freePlace id).port.enable = h.port.enable :=
  HostSide.sendWaiting_enable _ _

/-- A change of slots that keeps their numbers and rings. -/
theorem HostSide.SameCredit.slots (h : HostSide) {f : Slot → Slot} (hf : ∀ x, (f x).num = x.num ∧ (f x).ring = x.ring) :
    h.SameCredit (h.setTracker { h.tracker with slots := h.tracker.slots.map f }) :=
  { HostSide.SameCredit.of_eq (h := h) (k := h) (fun _ => rfl) (fun _ => rfl) rfl rfl rfl rfl with
    slotNums := by
      simp only [HostSide.setTracker_tracker, List.map_map]
      exact List.map_congr_left fun x _ => (hf x).1
    slotRings := by
      simp only [HostSide.setTracker_tracker, List.map_map]
      exact List.map_congr_left fun x _ => (hf x).2
    available := fun n hn => by
      rw [Tracker.available_iff] at hn ⊢
      exact ⟨by simpa [(hf _).1] using hn.1, hn.2⟩ }

/-- Another count of operations at the banks for slot `n`, which frees no slot that had one. -/
theorem HostSide.SameCredit.counted (h : HostSide) (n : SlotNo) (k ops : Nat)
    (hn : h.tracker.available n = true → k = 0) : h.SameCredit (h.setTracker
      { h.tracker with outstanding := h.tracker.outstanding.set n k, opsOut := ops }) :=
  { HostSide.SameCredit.of_eq (h := h) (k := h) (fun _ => rfl) (fun _ => rfl) rfl rfl rfl rfl with
    available := fun m hm => by
      have hold := hm
      rw [Tracker.available_iff] at hm ⊢
      refine ⟨hm.1, ?_⟩
      simp only [HostSide.setTracker_tracker, Fin.getElem_fin, Vector.getElem_set]
      split
      case isTrue hnm => exact hn (by rw [Fin.ext hnm]; exact hold)
      case isFalse => exact hm.2 }

/-! ## The configuration unit -/

/-- A busy configuration unit changes to another busy state. -/
theorem HostSide.Credit.setConfig {h : HostSide} {x : ConfigUnit} (c : h.Credit none) (hbusy : h.config ≠ .idle)
    (hx : x ≠ .idle) (hdrain : ∀ id ring k, x = .drainWait id ring k → ring ≠ 0 ∧ (h.rq ring).state ≠ .absent) :
    (h.setConfig x).Credit none :=
  { c with
    reserved := fun n hn => by
      rw [HostSide.promised_congr (h := h) (k := h.setConfig x) (fun _ => rfl) rfl rfl (iff_of_false hx hbusy)]
      exact c.reserved n hn
    fetch := fun f hf hne => ⟨(c.fetch f hf hne).1, fun hring => absurd ((c.fetch f hf hne).2 hring).1 hbusy⟩
    command := fun _ => c.command hbusy
    drain := hdrain
    disabled := fun hoff => absurd (c.disabled hoff).2.2.2 hbusy }

theorem HostSide.Credit.enabled {h : HostSide} {o : Option RingId} (c : h.Credit o) (hbusy : h.config ≠ .idle) :
    h.port.enable = true := by
  by_contra hoff
  exact hbusy (c.disabled (by simpa using hoff)).2.2.2

/-- The unit is IDLE: the reservation of its command is owed. -/
theorem HostSide.Credit.toIdle {h : HostSide} (c : h.Credit none) (hbusy : h.config ≠ .idle) :
    (h.setConfig .idle).Credit (some (h.rq 0).cq) :=
  { c with
    reserved := fun n hn => by
      have hr := c.reserved n hn
      simp only [HostSide.promised, reduceCtorEq, if_false, ne_eq, hbusy, not_false_eq_true, true_and] at hr
      simp only [HostSide.promised, HostSide.setConfig_config, ne_eq, not_true_eq_false, false_and, if_false,
        Option.some.injEq]
      exact hr
    fetch := fun f hf hne => ⟨(c.fetch f hf hne).1, fun hring => ⟨rfl, ((c.fetch f hf hne).2 hring).2⟩⟩
    command := fun h => absurd rfl h
    drain := fun _ _ _ h => nomatch h
    disabled := fun hoff => ⟨(c.disabled hoff).1, (c.disabled hoff).2.1, (c.disabled hoff).2.2.1, rfl⟩ }

/-- A command's completion uses the reservation made for its record. -/
theorem HostSide.Credit.completeCommand {h : HostSide} (c : h.Credit none) (hbusy : h.config ≠ .idle) (id : BitVec 16)
    (st : Status) (n : Nat) : (h.completeCommand id st n).Credit none :=
  HostSide.Credit.handOver (c.toIdle hbusy) (c.command hbusy)

/-! ## Completions of slots -/

theorem HostSide.postEvents_setTracker (t : Tracker) (k : Nat) (h : HostSide) :
    (h.postEvents k).setTracker t = (h.setTracker t).postEvents k := by
  induction k generalizing h with
  | zero => rfl
  | succ k ih =>
    simp only [HostSide.postEvents, HostSide.setTracker_events, HostSide.setTracker_engine, HostSide.setTracker_port]
    cases h.events.entries with
    | nil => rfl
    | cons en rest =>
      by_cases hroom : h.engine.eq.hasRoom = true
      · by_cases hwindow : h.port.inWindow (h.engine.eq.base + 32 * h.engine.eq.tail) 32 = true
        · simp only [hroom, hwindow, if_true]; exact ih _
        · simp only [hroom, hwindow, if_true]; rfl
      · simp only [hroom]; rfl

theorem HostSide.raise_setTracker (t : Tracker) (h : HostSide) (e : Event) :
    (h.raise e).setTracker t = (h.setTracker t).raise e := by
  simp only [HostSide.raise, HostSide.setTracker_events]
  by_cases henabled : e.enabled h.events.enables = true
  · by_cases haccepts : h.events.accepts e = true
    · simp only [henabled, haccepts, if_true]; exact HostSide.postEvents_setTracker t _ _
    · simp only [henabled, haccepts, if_true]; rfl
  · simp only [henabled]; rfl

/-- A hand-over reads and changes nothing of the tracker. -/
theorem HostSide.handOver_setTracker (h : HostSide) (c : Completion) (t : Tracker) :
    (h.handOver c).setTracker t = (h.setTracker t).handOver c := by
  simp only [HostSide.handOver, HostSide.cq_setTracker, HostSide.rq_setTracker, HostSide.setTracker_port]
  cases (h.cq (h.rq c.ring).cq).state with
  | active =>
    by_cases hwindow : h.port.inWindow ((h.cq (h.rq c.ring).cq).base + 32 * (h.cq (h.rq c.ring).cq).tail) 32 = true
    · simp only [hwindow, if_true]; rfl
    · simp only [hwindow]; exact HostSide.raise_setTracker t _ _
  | faulted => rfl
  | absent => rfl

/-- A slot leaves the tracker: the reservation of its completion is owed. -/
theorem HostSide.Credit.removeSlot {h : HostSide} (c : h.Credit none) {s : Slot} (hs : s ∈ h.tracker.slots) :
    (h.setTracker { h.tracker with slots := h.tracker.slots.filter fun x => x.num != s.num }).Credit
      (some (h.rq s.ring).cq) :=
  { c with
    reserved := fun n hn => by
      have hcount : h.slotPromised n = _ := countP_filter_num c.distinct hs fun x => (h.rq x.ring).cq == n
      have hr := c.reserved n hn
      rw [h.promised_eq, hcount, Bool.toNat_beq] at hr
      rw [HostSide.promised_eq, HostSide.slotPromised]
      simp only [Option.some.injEq, reduceCtorEq, if_false] at hr ⊢
      have hmove : ∀ a b c d : Nat, a + (b + c) + d = a + b + d + c := by omega
      exact hr.trans (hmove _ _ _ _)
    slots := fun x hx => c.slots x (List.mem_of_mem_filter hx)
    distinct := c.distinct.sublist (List.filter_sublist.map _)
    available := Nat.le_trans c.available (Tracker.availableSlots_le fun n hn => by
      rw [Tracker.available_iff] at hn ⊢
      exact ⟨fun x hx => hn.1 x (List.mem_of_mem_filter hx), hn.2⟩)
    disabled := fun hoff => absurd ((c.disabled hoff).2.2.1 ▸ hs) List.not_mem_nil }

/-! ## Rings created and removed -/

theorem HostSide.boundRings_setRq (h : HostSide) (m n : RingId) (r : Rq) :
    (h.setRq m r).boundRings n + ((h.rq m).state != .absent && (h.rq m).cq == n).toNat
      = h.boundRings n + (r.state != .absent && r.cq == n).toNat := by
  have hagree := countP_add_of_agree (List.nodup_finRange 32) (List.mem_finRange m)
    (p := fun i => ((h.setRq m r).rq i).state != .absent && ((h.setRq m r).rq i).cq == n)
    (q := fun i => (h.rq i).state != .absent && (h.rq i).cq == n) fun i hi => by
      rw [h.rq_setRq, if_neg (Ne.symm hi)]
  simpa [h.rq_setRq, HostSide.boundRings] using hagree

/-- Another request ring `m` that nothing in flight belongs to promises the same. -/
theorem HostSide.promised_setRq {h : HostSide} {m : RingId} (r : Rq) (hslots : ∀ x ∈ h.tracker.slots, x.ring ≠ m)
    (hfetch : ∀ f, h.engine.fetch = some f → f.ring = m → f.recs = []) (hconfig : m = 0 → h.config = .idle) (n : RingId) :
    (h.setRq m r).promised n = h.promised n := by
  have hrq : ∀ i, i ≠ m → (h.setRq m r).rq i = h.rq i := fun i hi => by rw [h.rq_setRq, if_neg (Ne.symm hi)]
  have hsame : (h.tracker.slots.countP fun x => ((h.setRq m r).rq x.ring).cq == n)
      = h.tracker.slots.countP fun x => (h.rq x.ring).cq == n :=
    List.countP_congr fun x hx => by rw [hrq x.ring (hslots x hx)]
  have hcommand : (h.config ≠ .idle ∧ ((h.setRq m r).rq 0).cq = n) ↔ (h.config ≠ .idle ∧ (h.rq 0).cq = n) :=
    and_congr_right fun hbusy => by rw [hrq 0 fun h0 => hbusy (hconfig h0.symm)]
  have hrecs : (h.setRq m r).fetchPromised n = h.fetchPromised n := by
    unfold HostSide.fetchPromised
    rw [show (h.setRq m r).engine.fetch = h.engine.fetch from rfl]
    cases hf : h.engine.fetch with
    | none => rfl
    | some f =>
      by_cases hring : f.ring = m
      · simp [hfetch f hf hring]
      · simp only [hrq f.ring hring]
  have hone : (h.setRq m r).commandPromised n = h.commandPromised n := if_congr hcommand rfl rfl
  rw [HostSide.promised_eq, HostSide.promised_eq, hrecs, hone]
  exact congrArg (_ + · + _) hsame

/-- Nothing rests on an ABSENT completion ring. -/
theorem HostSide.Credit.unused {h : HostSide} {o : Option RingId} (c : h.Credit o) {n : RingId}
    (hn : (h.cq n).state = .absent) : h.boundRings n = 0 ∧ h.promised n = 0 := by
  have hcq : ∀ m, (h.rq m).state ≠ .absent → (h.rq m).cq ≠ n := fun m hm he => (c.rings m hm).1 (he ▸ hn)
  have hbound : h.boundRings n = 0 := List.countP_eq_zero.mpr fun m _ => by
    by_cases hm : (h.rq m).state = .absent
    · simp [hm]
    · simp [hcq m hm]
  have hslots : h.slotPromised n = 0 := List.countP_eq_zero.mpr fun x hx => by simp [hcq x.ring (c.slots x hx)]
  have hcommand : h.commandPromised n = 0 := if_neg fun hh => hcq 0 (c.command hh.1) hh.2
  have hfetch : h.fetchPromised n = 0 := by
    unfold HostSide.fetchPromised
    cases hf : h.engine.fetch with
    | none => rfl
    | some f =>
      by_cases hrecs : f.recs = []
      · simp [hrecs]
      · exact if_neg (hcq f.ring (c.fetch f hf hrecs).1)
  exact ⟨hbound, by rw [HostSide.promised_eq, hfetch, hslots, hcommand]⟩

/-- A completion ring that was ABSENT is created. -/
theorem HostSide.Credit.addCq {h : HostSide} (c : h.Credit none) (n : RingId) (base size vector : Nat) (intEn : Bool)
    (hon : h.port.enable = true) (hn : (h.cq n).state = .absent) :
    (h.setCq n (Cq.created base size 0 vector intEn)).Credit none := by
  obtain ⟨hbound, hpromised⟩ := c.unused hn
  have hcq : ∀ m, (h.setCq n (Cq.created base size 0 vector intEn)).cq m
      = if n = m then Cq.created base size 0 vector intEn else h.cq m := fun m => h.cq_setCq n m _
  refine { c with bound := fun m hm => ?_, reserved := fun m hm => ?_, within := fun m hm => ?_,
                  rings := fun m hm => ?_, disabled := fun hoff => absurd (hon.symm.trans hoff) nofun }
  · by_cases hnm : n = m
    · rw [hcq, if_pos hnm, ← hnm]; exact hbound.symm
    · rw [hcq, if_neg hnm] at hm ⊢; exact c.bound m hm
  · by_cases hnm : n = m
    · rw [hcq, if_pos hnm, ← hnm]; exact hpromised.symm
    · rw [hcq, if_neg hnm] at hm ⊢; exact c.reserved m hm
  · by_cases hnm : n = m
    · rw [hcq, if_pos hnm]; exact Nat.zero_le size
    · rw [hcq, if_neg hnm] at hm ⊢; exact c.within m hm
  · obtain ⟨hpresent, hburst⟩ := c.rings m hm
    refine ⟨?_, hburst⟩
    rw [hcq]
    split
    · nofun
    · exact hpresent

/-- A completion ring to which no request ring is bound is removed. -/
theorem HostSide.Credit.removeCq {h : HostSide} (c : h.Credit none) {n : RingId} (hon : h.port.enable = true)
    (hn : (h.cq n).state ≠ .absent) (hbound : (h.cq n).bound = 0) : (h.setCq n Cq.absent).Credit none := by
  have hcq : ∀ m, (h.setCq n Cq.absent).cq m = if n = m then Cq.absent else h.cq m := fun m => h.cq_setCq n m _
  have hnone : ∀ m, (h.rq m).state ≠ .absent → (h.rq m).cq ≠ n := fun m hm he => by
    have hzero : h.boundRings n = 0 := (c.bound n hn).symm.trans hbound
    have := List.countP_eq_zero.mp hzero m (List.mem_finRange m)
    simp [hm, he] at this
  have hpresent : ∀ m, ((h.setCq n Cq.absent).cq m).state ≠ .absent → n ≠ m ∧ (h.cq m).state ≠ .absent := fun m hm => by
    rw [hcq] at hm
    by_cases hnm : n = m
    · rw [if_pos hnm] at hm; exact absurd rfl hm
    · rw [if_neg hnm] at hm; exact ⟨hnm, hm⟩
  refine { c with bound := fun m hm => ?_, reserved := fun m hm => ?_, within := fun m hm => ?_,
                  rings := fun m hm => ?_, disabled := fun hoff => absurd (hon.symm.trans hoff) nofun }
  · obtain ⟨hnm, hm⟩ := hpresent m hm
    rw [hcq, if_neg hnm]; exact c.bound m hm
  · obtain ⟨hnm, hm⟩ := hpresent m hm
    rw [hcq, if_neg hnm]; exact c.reserved m hm
  · by_cases hnm : n = m
    · rw [hcq, if_pos hnm] at hm; nomatch hm
    · rw [hcq, if_neg hnm] at hm ⊢; exact c.within m hm
  · rw [hcq, show (h.setCq n Cq.absent).rq m = h.rq m from rfl, if_neg (Ne.symm (hnone m hm))]; exact c.rings m hm

/-- Another bound count of completion ring `d` goes with another request ring `m` when nothing in flight belongs to the
ring and the bound count stays the number of request rings bound. -/
theorem HostSide.Credit.rebind {h : HostSide} {o : Option RingId} (c : h.Credit o) {m d : RingId} {r : Rq} {k : Nat}
    (hon : h.port.enable = true) (hslots : ∀ x ∈ h.tracker.slots, x.ring ≠ m)
    (hfetch : ∀ f, h.engine.fetch = some f → f.ring = m → f.recs = []) (hconfig : m = 0 → h.config = .idle)
    (hdrain : ∀ id ring j, h.config = .drainWait id ring j → ring ≠ m)
    (hring : r.state ≠ .absent → (h.cq r.cq).state ≠ .absent ∧ 1 ≤ r.burst)
    (hd : (h.cq d).state ≠ .absent → k = (h.setRq m r).boundRings d)
    (hothers : ∀ n, n ≠ d → (h.setRq m r).boundRings n = h.boundRings n) :
    ((h.setCq d { h.cq d with bound := k }).setRq m r).Credit o := by
  have hcq : ∀ n, ((h.setCq d { h.cq d with bound := k }).setRq m r).cq n
      = if d = n then { h.cq d with bound := k } else h.cq n := fun n => h.cq_setCq d n _
  have hrq : ∀ i, i ≠ m → ((h.setCq d { h.cq d with bound := k }).setRq m r).rq i = h.rq i := fun i hi => by
    rw [HostSide.rq_setRq, if_neg (Ne.symm hi)]; rfl
  have hstate : ∀ n, (((h.setCq d { h.cq d with bound := k }).setRq m r).cq n).state = (h.cq n).state := fun n => by
    rw [hcq]; split
    case isTrue he => rw [he]
    case isFalse => rfl
  have hpromised : ∀ n, ((h.setCq d { h.cq d with bound := k }).setRq m r).promised n = h.promised n :=
    HostSide.promised_setRq r hslots hfetch hconfig
  refine { c with bound := fun n hn => ?_, reserved := fun n hn => ?_, within := fun n hn => ?_,
                  rings := fun i hi => ?_, slots := fun x hx => ?_, fetch := fun f hf hne => ?_,
                  command := fun hbusy => ?_, drain := fun id ring j hwait => ?_,
                  disabled := fun hoff => absurd (hon.symm.trans hoff) nofun }
  · rw [hstate] at hn
    change _ = (h.setRq m r).boundRings n
    rw [hcq]
    by_cases hdn : d = n
    · rw [if_pos hdn, ← hdn]; exact hd (hdn ▸ hn)
    · rw [if_neg hdn, hothers n (Ne.symm hdn)]; exact c.bound n hn
  · rw [hstate] at hn
    rw [hpromised]
    refine Eq.trans ?_ (c.reserved n hn)
    rw [hcq]; split
    case isTrue he => rw [he]
    case isFalse => rfl
  · rw [hstate] at hn
    have hw := c.within n hn
    rw [hcq]; split
    case isTrue he => rw [← he] at hw; exact hw
    case isFalse => exact hw
  · rw [hstate]
    by_cases him : i = m
    · rw [him, HostSide.rq_setRq, if_pos rfl] at hi ⊢; exact hring hi
    · rw [hrq i him] at hi ⊢; exact c.rings i hi
  · rw [hrq _ (hslots x hx)]; exact c.slots x hx
  · rw [hrq _ fun he => hne (hfetch f hf he)]; exact c.fetch f hf hne
  · rw [hrq 0 fun he => hbusy (hconfig he.symm)]; exact c.command hbusy
  · rw [hrq _ (hdrain id ring j hwait)]; exact c.drain id ring j hwait

/-- A request ring that was ABSENT is created and bound to a completion ring. -/
theorem HostSide.Credit.addRq {h : HostSide} (c : h.Credit none) {m d : RingId} (base size burst : Nat)
    (hon : h.port.enable = true) (hm : (h.rq m).state = .absent) (hzero : m = 0 → h.config = .idle)
    (hd : (h.cq d).state ≠ .absent) (hburst : 1 ≤ burst) :
    ((h.setCq d { h.cq d with bound := (h.cq d).bound + 1 }).setRq m (Rq.created base size d burst)).Credit none := by
  have hbound : ∀ n, (h.setRq m (Rq.created base size d burst)).boundRings n = h.boundRings n + (d == n).toNat := by
    intro n
    have := h.boundRings_setRq m n (Rq.created base size d burst)
    simpa [hm, Rq.created, show (RqState.active != .absent) = true from rfl] using this
  refine c.rebind hon ?_ ?_ hzero ?_ (fun _ => ⟨hd, hburst⟩) (fun _ => ?_) fun n hn => ?_
  · exact fun x hx he => c.slots x hx (he ▸ hm)
  · exact fun f hf he => by_contra fun hne => (c.fetch f hf hne).1 (he ▸ hm)
  · exact fun id ring j hwait he => (c.drain id ring j hwait).2 (he ▸ hm)
  · rw [hbound, c.bound d hd]; simp
  · rw [hbound]; simp [Ne.symm hn]

/-- A drained request ring is removed. -/
theorem HostSide.Credit.removeRq {h : HostSide} {o : Option RingId} (c : h.Credit o) {m : RingId}
    (hidle : h.config = .idle) (hdrained : h.drained m = true) (hm : (h.rq m).state ≠ .absent)
    (hon : h.port.enable = true) : (h.removeRq m).Credit o := by
  have hbound : ∀ n, (h.setRq m Rq.absent).boundRings n + ((h.rq m).cq == n).toNat = h.boundRings n := by
    intro n
    have := h.boundRings_setRq m n Rq.absent
    simpa [bne_iff_ne.mpr hm, Rq.absent] using this
  simp only [HostSide.drained, Bool.and_eq_true, Bool.not_eq_true', List.any_eq_false, beq_iff_eq] at hdrained
  obtain ⟨hslots, hfetch⟩ := hdrained
  refine c.rebind hon hslots (fun f hf he => ?_) (fun _ => hidle) (fun id ring j hwait => ?_) (fun hr => absurd rfl hr)
    (fun hd => ?_) fun n hn => ?_
  · rw [hf] at hfetch; simpa [he] using hfetch
  · rw [hidle] at hwait; nomatch hwait
  · have := hbound (h.rq m).cq
    have hb := c.bound _ hd
    simp only [BEq.rfl, Bool.toNat_true] at this
    omega
  · have := hbound n
    rwa [beq_eq_false_iff_ne.mpr (Ne.symm hn)] at this

/-! ## The acts that leave the fetch -/

theorem HostSide.Follow.credit {h k : HostSide} (hfollow : h.Follow k) (c : h.Credit none) : k.Credit none := by
  cases hfollow with
  | send x => exact c.setOut x
  | port p henable hsent hwaiting => exact c.same (.of_eq (fun _ => rfl) (fun _ => rfl) rfl rfl rfl henable)
  | ask o addr len =>
    have henable := h.placeRead_enable o addr len
    obtain ⟨_, _, e⟩ := h.placeRead_eq o addr len
    rw [e] at henable ⊢
    exact c.same (.of_eq (fun _ => rfl) (fun _ => rfl) rfl rfl rfl henable)
  | abandon f => exact c.same (.of_eq (fun _ => rfl) (fun _ => rfl) rfl rfl rfl rfl)
  | free id =>
    have henable := h.freePlace_enable id
    obtain ⟨_, _, e⟩ := h.freePlace_eq id
    rw [e] at henable ⊢
    exact c.same (.of_eq (fun _ => rfl) (fun _ => rfl) rfl rfl rfl henable)
  | raise e => exact c.raise e
  | eventRing r => exact c.same (.of_eq (fun _ => rfl) (fun _ => rfl) rfl rfl rfl rfl)
  | postEvents n =>
    obtain ⟨_, _, _, e⟩ := h.postEvents_eq n
    rw [e]
    exact c.same (.of_eq (fun _ => rfl) (fun _ => rfl) rfl rfl rfl rfl)
  | enables x => exact c.same (.of_eq (fun _ => rfl) (fun _ => rfl) rfl rfl rfl rfl)
  | slots f hf => exact c.same (.slots h hf)
  | issue n hn =>
    refine c.same (.counted h n _ _ fun hav => absurd ?_ hn)
    exact (h.tracker.slot?_eq_none_iff n).mpr ((h.tracker.available_iff n).mp hav).1
  | back n =>
    refine c.same (.counted h n _ _ fun hav => ?_)
    rw [((h.tracker.available_iff n).mp hav).2]
  | complete s x hs hx =>
    rw [HostSide.handOver_setTracker]
    refine HostSide.Credit.handOver ?_ ?_
    · rw [HostSide.rq_setTracker, hx]; exact c.removeSlot hs
    · rw [HostSide.rq_setTracker, hx]; exact c.slots s hs
  | endCommand id st n hbusy => exact c.completeCommand hbusy id st n
  | endDrain id ring count hwait hdrained =>
    have hbusy : h.config ≠ .idle := by rw [hwait]; nofun
    obtain ⟨hring, hpresent⟩ := c.drain id ring count hwait
    have hzero : (h.removeRq ring).rq 0 = h.rq 0 := by
      rw [HostSide.removeRq, HostSide.rq_setRq, if_neg hring]; rfl
    refine HostSide.Credit.handOver (h := (h.removeRq ring).setConfig .idle) ?_ ?_
    · change HostSide.Credit _ (some ((h.removeRq ring).rq 0).cq)
      rw [hzero]
      exact (c.toIdle hbusy).removeRq rfl hdrained hpresent (c.enabled hbusy)
    · change ((h.removeRq ring).rq 0).state ≠ .absent
      rw [hzero]
      exact c.command hbusy
  | request n r hstate hcq hburst =>
    have hrq : ∀ m, (h.setRq n r).rq m = if n = m then r else h.rq m := fun m => h.rq_setRq n m r
    refine c.same { HostSide.SameCredit.of_eq (h := h) (k := h) (fun _ => rfl) (fun _ => rfl) rfl rfl rfl rfl with
      rqState := fun m => ?_, rqCq := fun m => ?_, rqBurst := fun m => ?_ }
    · rw [hrq]; split
      case isTrue he => rw [← he]; exact hstate
      case isFalse => rfl
    · rw [hrq]; split
      case isTrue he => rw [← he]; exact hcq
      case isFalse => rfl
    · rw [hrq]; split
      case isTrue he => rw [← he]; exact hburst
      case isFalse => rfl
  | consume n q hactive hstate hbound hreserved hsize hunconsumed =>
    have hpresent : (h.cq n).state ≠ .absent := by rw [hactive]; nofun
    have hcq : ∀ m, (h.setCq n q).cq m = if n = m then q else h.cq m := fun m => h.cq_setCq n m q
    refine c.same { HostSide.SameCredit.of_eq (h := h) (k := h) (fun _ => rfl) (fun _ => rfl) rfl rfl rfl rfl with
      cqState := fun m => ?_, cqActive := fun m => ?_, cqBound := fun m => ?_, cqReserved := fun m => ?_,
      cqSize := fun m => ?_, cqUnconsumed := fun m => ?_ }
    all_goals rw [hcq]; split
    case refine_1.isTrue he => rw [← he]; exact iff_of_false hstate hpresent
    case refine_2.isTrue he => rw [← he]; exact fun _ => hactive
    case refine_3.isTrue he => rw [← he]; exact hbound
    case refine_4.isTrue he => rw [← he]; exact hreserved
    case refine_5.isTrue he => rw [← he]; exact hsize
    case refine_6.isTrue he => rw [← he]; exact hunconsumed
    case refine_2.isFalse => exact id
    case refine_6.isFalse => exact Nat.le_refl _
    all_goals rfl
  | image id x ps hbusy => exact c.setConfig hbusy nofun nofun
  | createRq n d base size burst hbusy hn hfree hd hburst =>
    exact c.addRq base size burst (c.enabled hbusy) hfree (fun h => absurd h hn) (by rw [hd]; nofun) hburst
  | createCq n base size vector intEn hbusy hfree =>
    exact c.addCq n base size vector intEn (c.enabled hbusy) hfree
  | deleteCq n hbusy hpresent hbound => exact c.removeCq (c.enabled hbusy) hpresent hbound
  | beginDrain id n count hbusy hn hpresent =>
    refine c.setConfig hbusy nofun fun _ ring _ he => ?_
    cases he
    exact ⟨hn, hpresent⟩
  | pair p hoff hon hsent hwaiting =>
    obtain ⟨habsent, _, _, hidle⟩ := c.disabled hoff
    have con : (h.setPort p).Credit none := { c with disabled := fun hoff => absurd (hon.symm.trans hoff) nofun }
    have ccq := con.addCq 0 p.cqBase.toNat p.cq0Size p.cq0Vector p.cq0IntEn hon (habsent 0).2
    have cpair := ccq.addRq (m := 0) (d := 0) p.rqBase.toNat p.rq0Size 1 hon (habsent 0).1 (fun _ => hidle)
      (by rw [HostSide.cq_setCq, if_pos rfl]; nofun) (Nat.le_refl 1)
    have hpair : (h.setPort p).createPair = ((((h.setPort p).setCq 0
        (Cq.created p.cqBase.toNat p.cq0Size 0 p.cq0Vector p.cq0IntEn)).setCq 0
        (Cq.created p.cqBase.toNat p.cq0Size 1 p.cq0Vector p.cq0IntEn)).setRq 0
        (Rq.created p.rqBase.toNat p.rq0Size 0 1)) := by
      simp [HostSide.createPair, HostSide.setCq, HostSide.setRq, HostSide.setEngine]
    rw [hpair]
    rw [HostSide.cq_setCq, if_pos rfl] at cpair
    exact cpair

end Sys2Proof.Machine
end

section
/-! PROOF. The acts of a fetch and the resets keep the rule of credit (R154, R157 to R159). -/

namespace Sys2Proof.Machine

/-! ## The first record of a fetch leaves it -/

theorem HostSide.rq_advance (h : HostSide) (f : Fetch) (rest : List (Option Block)) (m : RingId) :
    (h.advance f rest).rq m = if f.ring = m then
      { h.rq f.ring with head := ((h.rq f.ring).head + 1) % (h.rq f.ring).size } else h.rq m := by
  rw [← h.rq_setRq]
  unfold HostSide.advance
  dsimp only
  split <;> rfl

theorem HostSide.rq_advance_cq (h : HostSide) (f : Fetch) (rest : List (Option Block)) (m : RingId) :
    ((h.advance f rest).rq m).cq = (h.rq m).cq := by
  rw [h.rq_advance]
  split
  case isTrue he => rw [← he]
  case isFalse => rfl

theorem HostSide.rq_advance_state (h : HostSide) (f : Fetch) (rest : List (Option Block)) (m : RingId) :
    ((h.advance f rest).rq m).state = (h.rq m).state := by
  rw [h.rq_advance]
  split
  case isTrue he => rw [← he]
  case isFalse => rfl

theorem HostSide.rq_advance_burst (h : HostSide) (f : Fetch) (rest : List (Option Block)) (m : RingId) :
    ((h.advance f rest).rq m).burst = (h.rq m).burst := by
  rw [h.rq_advance]
  split
  case isTrue he => rw [← he]
  case isFalse => rfl

theorem HostSide.cq_advance (h : HostSide) (f : Fetch) (rest : List (Option Block)) (n : RingId) :
    (h.advance f rest).cq n = h.cq n := by
  unfold HostSide.advance
  dsimp only
  split <;> rfl

theorem HostSide.advance_fetch (h : HostSide) (f : Fetch) (rest : List (Option Block)) :
    (h.advance f rest).engine.fetch = some { f with handed := f.handed + 1, recs := rest } := by
  unfold HostSide.advance
  dsimp only
  split <;> rfl

theorem HostSide.advance_config (h : HostSide) (f : Fetch) (rest : List (Option Block)) :
    (h.advance f rest).config = h.config := by
  unfold HostSide.advance
  dsimp only
  split <;> rfl

theorem HostSide.advance_reserved (h : HostSide) (f : Fetch) (rest : List (Option Block)) :
    (h.advance f rest).tracker.reserved = if f.ring = 0 then h.tracker.reserved else h.tracker.reserved - 1 := by
  unfold HostSide.advance
  dsimp only
  split <;> rfl

theorem HostSide.advance_available (h : HostSide) (f : Fetch) (rest : List (Option Block)) (n : SlotNo) :
    (h.advance f rest).tracker.available n = h.tracker.available n := by
  unfold HostSide.advance
  dsimp only
  split <;> rfl

theorem HostSide.advance_availableSlots (h : HostSide) (f : Fetch) (rest : List (Option Block)) :
    (h.advance f rest).tracker.availableSlots = h.tracker.availableSlots :=
  List.filter_congr fun n _ => h.advance_available f rest n

/-- The slots a fetch in flight has reserved: as many as records left, of a data ring. -/
theorem HostSide.slotsTaken_of_fetch {h : HostSide} {f : Fetch} (hf : h.engine.fetch = some f) :
    h.slotsTaken = if f.ring = 0 then 0 else f.recs.length := by
  rw [HostSide.slotsTaken, hf]

theorem HostSide.fetchPromised_of_fetch {h : HostSide} {f : Fetch} (hf : h.engine.fetch = some f) (n : RingId) :
    h.fetchPromised n = if (h.rq f.ring).cq = n then f.recs.length else 0 := by
  rw [HostSide.fetchPromised, hf]

/-- A record that leaves its fetch is owed its reservation. -/
theorem HostSide.Credit.advance {h : HostSide} (c : h.Credit none) {f : Fetch} {r : Option Block}
    {rest : List (Option Block)} (hf : h.engine.fetch = some f) (hrecs : f.recs = r :: rest) :
    (h.advance f rest).Credit (some (h.rq f.ring).cq) := by
  obtain ⟨hpresent, hzero⟩ := c.fetch f hf (by rw [hrecs]; nofun)
  have hlast : f.ring = 0 → rest = [] := fun hring => by
    have := (hzero hring).2
    rw [hrecs] at this
    exact List.eq_nil_of_length_eq_zero (by simpa using this)
  have hlength : f.recs.length = rest.length + 1 := by rw [hrecs]; rfl
  have htaken := c.taken
  rw [HostSide.slotsTaken_of_fetch hf] at htaken
  have hstate := fun m => h.rq_advance_state f rest m
  refine ⟨fun n hn => ?_, fun n hn => ?_, fun n hn => ?_, fun m hm => ?_, fun x hx => ?_, ?_, fun g hg hne => ?_, ?_, ?_,
    fun hbusy => ?_, fun id ring k hwait => ?_, fun hoff => ?_⟩
  · rw [h.cq_advance] at hn ⊢
    rw [HostSide.boundRings_congr (fun m => by rw [hstate]) (h.rq_advance_cq f rest)]
    exact c.bound n hn
  · rw [h.cq_advance] at hn ⊢
    have hr := c.reserved n hn
    have hslots : (h.advance f rest).slotPromised n = h.slotPromised n := by
      simp only [HostSide.slotPromised, h.advance_slots, h.rq_advance_cq]
    have hcommand : (h.advance f rest).commandPromised n = h.commandPromised n := by
      simp only [HostSide.commandPromised, h.advance_config, h.rq_advance_cq]
    rw [HostSide.promised_eq, HostSide.fetchPromised_of_fetch hf] at hr
    rw [HostSide.promised_eq, HostSide.fetchPromised_of_fetch (h.advance_fetch f rest), hslots, hcommand,
      h.rq_advance_cq]
    simp only [Option.some.injEq, reduceCtorEq, if_false] at hr ⊢
    by_cases hcq : (h.rq f.ring).cq = n
    · simp only [hcq, if_true] at hr ⊢; omega
    · simp only [hcq, if_false] at hr ⊢; omega
  · rw [h.cq_advance] at hn ⊢; exact c.within n hn
  · rw [hstate] at hm
    rw [h.rq_advance_cq, h.cq_advance, h.rq_advance_burst]
    exact c.rings m hm
  · rw [hstate]
    rw [h.advance_slots] at hx
    exact c.slots x hx
  · rw [Tracker.safe, h.advance_slots]; exact c.distinct
  · rw [h.advance_fetch] at hg
    cases hg
    rw [hstate, h.advance_config]
    exact ⟨hpresent, fun hring => absurd (hlast hring) hne⟩
  · rw [HostSide.slotsTaken_of_fetch (h.advance_fetch f rest), h.advance_reserved]
    split
    case isTrue hring => rw [htaken, if_pos hring]
    case isFalse hring =>
      rw [if_neg hring] at htaken
      simp only; omega
  · rw [h.advance_reserved, h.advance_availableSlots]
    have := c.available
    split <;> omega
  · rw [h.advance_config] at hbusy
    rw [hstate]
    exact c.command hbusy
  · rw [h.advance_config] at hwait
    rw [hstate]
    exact c.drain id ring k hwait
  · rw [h.advance_port] at hoff
    exact absurd ((c.disabled hoff).2.1.symm.trans hf) nofun

/-- The record is refused: its completion uses the reservation. -/
theorem HostSide.Credit.refused {h : HostSide} (c : h.Credit none) {f : Fetch} {r : Option Block}
    {rest : List (Option Block)} {x : Completion} (hf : h.engine.fetch = some f) (hrecs : f.recs = r :: rest)
    (hx : x.ring = f.ring) : ((h.advance f rest).handOver x).Credit none := by
  refine HostSide.Credit.handOver ?_ ?_
  · rw [hx, h.rq_advance_cq]; exact c.advance hf hrecs
  · rw [hx, h.rq_advance_state]; exact (c.fetch f hf (by rw [hrecs]; nofun)).1

/-- The record is a command: the configuration unit takes the promise over. -/
theorem HostSide.Credit.command_taken {h : HostSide} (c : h.Credit none) {f : Fetch} {r : Option Block}
    {rest : List (Option Block)} (hf : h.engine.fetch = some f) (hrecs : f.recs = r :: rest) (hring : f.ring = 0)
    (id : BitVec 16) (x : ConfigCmd) : ((h.advance f rest).setConfig (.executing id x none)).Credit none := by
  obtain ⟨hpresent, hzero⟩ := c.fetch f hf (by rw [hrecs]; nofun)
  obtain ⟨hidle, hlength⟩ := hzero hring
  have hlast : rest = [] := by
    rw [hrecs] at hlength
    exact List.eq_nil_of_length_eq_zero (by simpa using hlength)
  have ca := c.advance hf hrecs
  refine { ca with reserved := fun n hn => ?_, fetch := fun g hg hne => ?_, command := fun _ => ?_,
                   drain := nofun, disabled := fun hoff => ?_ }
  · have hr := ca.reserved n hn
    have hnone : (h.advance f rest).commandPromised n = 0 := if_neg fun hh => hh.1 ((h.advance_config f rest).trans hidle)
    have hone : ((h.advance f rest).setConfig (.executing id x none)).commandPromised n
        = if (h.rq 0).cq = n then 1 else 0 := by
      simp only [HostSide.commandPromised, HostSide.setConfig_config, ne_eq, reduceCtorEq, not_false_eq_true, true_and]
      exact if_congr (by rw [show ((h.advance f rest).setConfig (.executing id x none)).rq 0 = (h.advance f rest).rq 0 from rfl,
        h.rq_advance_cq]) rfl rfl
    rw [HostSide.promised_eq, hnone] at hr
    rw [HostSide.promised_eq, hone]
    rw [hring] at hr
    simp only [Option.some.injEq, reduceCtorEq, if_false] at hr ⊢
    exact hr
  · rw [HostSide.setConfig_engine, h.advance_fetch] at hg
    cases hg
    exact absurd hlast hne
  · change ((h.advance f rest).rq 0).state ≠ .absent
    rw [h.rq_advance_state, ← hring]
    exact hpresent
  · rw [HostSide.setConfig_port, h.advance_port] at hoff
    exact absurd ((c.disabled hoff).2.1.symm.trans hf) nofun

/-- The record occupies an available slot, which takes the promise over. -/
theorem HostSide.Credit.occupied {h : HostSide} (c : h.Credit none) {f : Fetch} {r : Option Block}
    {rest : List (Option Block)} (hf : h.engine.fetch = some f) (hrecs : f.recs = r :: rest) (hring : f.ring ≠ 0)
    {x : Slot} (hfree : h.tracker.available x.num = true) (hx : x.ring = f.ring) :
    ((h.advance f rest).setTracker { (h.advance f rest).tracker with
      slots := h.tracker.slots ++ [x], tags := h.tracker.tags.set x.num x.tag }).Credit none := by
  have ca := c.advance hf hrecs
  have hpresent := (c.fetch f hf (by rw [hrecs]; nofun)).1
  refine { ca with reserved := fun n hn => ?_, slots := fun y hy => ?_, distinct := Tracker.nodup_occupied c.distinct hfree,
                   available := ?_, disabled := fun hoff => ?_ }
  · have hr := ca.reserved n hn
    have hold : (h.advance f rest).slotPromised n
        = h.tracker.slots.countP fun y => ((h.advance f rest).rq y.ring).cq == n := by
      rw [HostSide.slotPromised, h.advance_slots]
    rw [HostSide.promised_eq, hold] at hr
    rw [HostSide.promised_eq, HostSide.slotPromised]
    simp only [HostSide.setTracker_tracker, HostSide.rq_setTracker, List.countP_append, List.countP_singleton, hx,
      h.rq_advance_cq, beq_iff_eq, Option.some.injEq, reduceCtorEq, if_false] at hr ⊢
    refine hr.trans ?_
    have hmove : ∀ a b d e : Nat, a + b + d + e = a + (b + e) + d := by omega
    exact hmove _ _ _ _
  · change ((h.advance f rest).rq y.ring).state ≠ .absent
    rw [h.rq_advance_state]
    rcases List.mem_append.mp hy with hy | hy
    · exact c.slots y hy
    · rw [List.mem_singleton.mp hy, hx]; exact hpresent
  · have hone := countP_add_of_agree (List.nodup_finRange 256) (List.mem_finRange x.num)
      (p := h.tracker.available) (q := Tracker.available { (h.advance f rest).tracker with
        slots := h.tracker.slots ++ [x], tags := h.tracker.tags.set x.num x.tag }) fun n hn => by
        rw [← h.advance_available f rest n, Bool.eq_iff_iff, Tracker.available_iff, Tracker.available_iff, h.advance_slots]
        simp [or_imp, forall_and, Ne.symm hn]
    have hav := c.available
    have htaken := c.taken
    rw [HostSide.slotsTaken_of_fetch hf, if_neg hring, hrecs, List.length_cons] at htaken
    rw [h.tracker.availableSlots_length] at hav
    rw [Tracker.availableSlots_length]
    have hreserved := h.advance_reserved f rest
    rw [if_neg hring] at hreserved
    rw [hfree, Bool.toNat_true] at hone
    have hbit := Bool.toNat_le (Tracker.available { (h.advance f rest).tracker with
      slots := h.tracker.slots ++ [x], tags := h.tracker.tags.set x.num x.tag } x.num)
    dsimp only [HostSide.setTracker_tracker] at hone hbit ⊢
    omega
  · rw [HostSide.setTracker_port, h.advance_port] at hoff
    exact absurd ((c.disabled hoff).2.1.symm.trans hf) nofun

/-! ## The end and the start of a fetch -/

/-- A fetch whose records have all been handed over ends. -/
theorem HostSide.Credit.endFetch {h : HostSide} (c : h.Credit none) {f : Fetch} (hf : h.engine.fetch = some f)
    (hrecs : f.recs = []) : (h.clearFetch f.ring).Credit none := by
  have cm : (h.setRq f.ring { h.rq f.ring with inFlight := false }).Credit none :=
    (HostSide.Follow.request h f.ring { h.rq f.ring with inFlight := false } Iff.rfl rfl rfl).credit c
  refine { cm with reserved := fun n hn => ?_, fetch := nofun, taken := ?_, disabled := fun hoff => ?_ }
  · have hr := cm.reserved n hn
    have hnone : (h.setRq f.ring { h.rq f.ring with inFlight := false }).fetchPromised n = 0 :=
      (HostSide.fetchPromised_of_fetch (h := h.setRq f.ring _) hf n).trans (by rw [hrecs]; exact ite_self 0)
    rw [HostSide.promised_eq, hnone] at hr
    exact hr
  · have htaken := c.taken
    rw [HostSide.slotsTaken_of_fetch hf, hrecs] at htaken
    exact htaken.trans (ite_self 0)
  · exact absurd ((c.disabled hoff).2.1.symm.trans hf) nofun

/-- A fetch goes, its reservations with it. -/
theorem HostSide.Credit.dropFetch {h : HostSide} (c : h.Credit none) {f : Fetch} (hf : h.engine.fetch = some f)
    {t : Tracker} (hslots : t.slots = h.tracker.slots) (hreserved : t.reserved = 0) :
    (((h.setCq (h.rq f.ring).cq { h.cq (h.rq f.ring).cq with
      reserved := (h.cq (h.rq f.ring).cq).reserved - f.recs.length }).setTracker t).setFetch none).Credit none := by
  have hcq : ∀ n, (((h.setCq (h.rq f.ring).cq { h.cq (h.rq f.ring).cq with
      reserved := (h.cq (h.rq f.ring).cq).reserved - f.recs.length }).setTracker t).setFetch none).cq n
      = { h.cq n with reserved := (h.cq n).reserved - h.fetchPromised n } := fun n => by
    rw [HostSide.fetchPromised_of_fetch hf]
    refine (h.cq_setCq _ n _).trans ?_
    split
    case isTrue he => rw [← he]
    case isFalse => rfl
  have hpromised : ∀ n, h.promised n = h.fetchPromised n + (((h.setCq (h.rq f.ring).cq { h.cq (h.rq f.ring).cq with
      reserved := (h.cq (h.rq f.ring).cq).reserved - f.recs.length }).setTracker t).setFetch none).promised n :=
    fun n => by
      have hsame : (((h.setCq (h.rq f.ring).cq { h.cq (h.rq f.ring).cq with
          reserved := (h.cq (h.rq f.ring).cq).reserved - f.recs.length }).setTracker t).setFetch none).slotPromised n
          = h.slotPromised n := congrArg (List.countP fun x : Slot => (h.rq x.ring).cq == n) hslots
      rw [HostSide.promised_eq, HostSide.promised_eq, hsame, Nat.add_assoc, Nat.add_assoc]
      exact congrArg (h.fetchPromised n + ·) (Nat.zero_add _).symm
  refine { c with bound := fun n hn => ?_, reserved := fun n hn => ?_, within := fun n hn => ?_, rings := fun m hm => ?_,
                  slots := fun x hx => c.slots x (hslots ▸ hx), distinct := ?_, fetch := nofun, taken := hreserved,
                  available := ?_, disabled := fun hoff => absurd ((c.disabled hoff).2.1.symm.trans hf) nofun }
  · rw [hcq] at hn ⊢; exact c.bound n hn
  · rw [hcq] at hn ⊢
    have hr := c.reserved n hn
    rw [hpromised] at hr
    simp only [reduceCtorEq, if_false] at hr ⊢
    omega
  · rw [hcq] at hn ⊢
    have hw := c.within n hn
    dsimp only; omega
  · rw [hcq]; exact c.rings m hm
  · exact (show (t.slots.map Slot.num).Nodup from hslots ▸ c.distinct)
  · exact (show t.reserved ≤ _ from hreserved ▸ Nat.zero_le _)

theorem HostSide.Credit.request {h : HostSide} (c : h.Credit none) {n : RingId} {r : Rq}
    (hstate : r.state = .absent ↔ (h.rq n).state = .absent) (hcq : r.cq = (h.rq n).cq)
    (hburst : r.burst = (h.rq n).burst) : (h.setRq n r).Credit none :=
  (HostSide.Follow.request h n r hstate hcq hburst).credit c

theorem HostSide.Credit.unmark {h : HostSide} (c : h.Credit none) (n : RingId) :
    (h.setRq n { h.rq n with inFlight := false }).Credit none := c.request Iff.rfl rfl rfl

/-- A fetch that fails gives back what its records have reserved (R159). -/
theorem HostSide.Credit.giveUp {h : HostSide} (c : h.Credit none) {f : Fetch} (hf : h.engine.fetch = some f) :
    (h.giveUpFetch f).Credit none := by
  have htaken := c.taken
  rw [HostSide.slotsTaken_of_fetch hf] at htaken
  have hstate : (if (h.rq f.ring).state = .active then .faulted else (h.rq f.ring).state) = RqState.absent
      ↔ (h.rq f.ring).state = .absent := by
    cases (h.rq f.ring).state <;> simp
  unfold HostSide.giveUpFetch
  dsimp only
  split
  case isTrue hring =>
    have cd := c.dropFetch hf (t := h.tracker) rfl (htaken.trans (if_pos hring))
    exact (cd.request (n := f.ring) (r := { h.rq f.ring with
      state := if (h.rq f.ring).state = .active then .faulted else (h.rq f.ring).state }) hstate rfl rfl).unmark f.ring
  case isFalse hring =>
    rw [if_neg hring] at htaken
    have cd := c.dropFetch hf (t := { h.tracker with reserved := h.tracker.reserved - f.recs.length }) rfl
      (by dsimp only; omega)
    exact (cd.request (n := f.ring) (r := { h.rq f.ring with
      state := if (h.rq f.ring).state = .active then .faulted else (h.rq f.ring).state }) hstate rfl rfl).unmark f.ring

/-- What the arbiter's choice rests on: the ring and its completion ring are ACTIVE, with a record pending and free credit;
for RQ0 the configuration unit is IDLE, and for a data ring a slot can be reserved (R155, R156). -/
theorem HostSide.served_eq_some {h : HostSide} {i : RingId} (hi : h.served = some i) :
    (h.rq i).state = .active ∧ 0 < (h.rq i).pendingCount ∧ (h.cq (h.rq i).cq).state = .active
      ∧ 0 < (h.cq (h.rq i).cq).freeCredit ∧ (i = 0 → h.config = .idle) ∧ (i ≠ 0 → 0 < h.tracker.reservable) := by
  have hcan : h.canFetch i = true → (h.rq i).state = .active ∧ 0 < (h.rq i).pendingCount
      ∧ (h.cq (h.rq i).cq).state = .active ∧ 0 < (h.cq (h.rq i).cq).freeCredit := fun hc => by
    simpa [HostSide.canFetch, and_assoc] using hc
  unfold HostSide.served at hi
  split at hi
  case isTrue hzero =>
    cases hi
    simp only [HostSide.rq0Eligible, Bool.and_eq_true, beq_iff_eq] at hzero
    obtain ⟨hr, hp, hq, hc⟩ := hcan hzero.1
    exact ⟨hr, hp, hq, hc, fun _ => hzero.2, fun h0 => absurd rfl h0⟩
  case isFalse =>
    have hdata := List.find?_some hi
    have hmem := List.mem_of_find?_eq_some hi
    simp only [HostSide.dataEligible, Bool.and_eq_true, decide_eq_true_eq] at hdata
    obtain ⟨hr, hp, hq, hc⟩ := hcan hdata.1
    refine ⟨hr, hp, hq, hc, fun h0 => ?_, fun _ => hdata.2⟩
    subst h0
    simp [searchOrder] at hmem

/-- How many records a fetch reads: at least one, of RQ0 exactly one, and no more than the free credit and, for a data
ring, the slots that can be reserved (R157). -/
theorem HostSide.fetchCount_bounds {h : HostSide} {i : RingId} (hi : h.served = some i) (hburst : 1 ≤ (h.rq i).burst) :
    1 ≤ h.fetchCount i ∧ h.fetchCount i ≤ (h.cq (h.rq i).cq).freeCredit ∧ (i = 0 → h.fetchCount i = 1)
      ∧ (i ≠ 0 → h.fetchCount i ≤ h.tracker.reservable) := by
  obtain ⟨_, hpending, _, hcredit, _, hslots⟩ := HostSide.served_eq_some hi
  unfold HostSide.fetchCount
  by_cases hzero : i = 0
  · simp only [hzero, if_true] at hpending hcredit ⊢
    exact ⟨by omega, by omega, fun _ => by omega, fun h0 => absurd rfl h0⟩
  · have := hslots hzero
    simp only [hzero, if_false]
    exact ⟨by omega, by omega, nofun, fun _ => by omega⟩

theorem HostSide.rq_reserveFetch (h : HostSide) (i : RingId) (n : Nat) (m : RingId) :
    (h.reserveFetch i n).rq m = if i = m then { h.rq i with inFlight := true } else h.rq m := by
  rw [← h.rq_setRq]
  unfold HostSide.reserveFetch
  dsimp only
  split <;> rfl

theorem HostSide.cq_reserveFetch (h : HostSide) (i : RingId) (n : Nat) (d : RingId) :
    (h.reserveFetch i n).cq d = if (h.rq i).cq = d then
      { h.cq (h.rq i).cq with reserved := (h.cq (h.rq i).cq).reserved + n } else h.cq d := by
  rw [← h.cq_setCq]
  unfold HostSide.reserveFetch
  dsimp only
  split <;> rfl

theorem HostSide.reserveFetch_fetch (h : HostSide) (i : RingId) (n : Nat) :
    (h.reserveFetch i n).engine.fetch = some { ring := i, handed := 0, recs := List.replicate n none } := by
  unfold HostSide.reserveFetch
  dsimp only
  split <;> rfl

theorem HostSide.reserveFetch_config (h : HostSide) (i : RingId) (n : Nat) : (h.reserveFetch i n).config = h.config := by
  unfold HostSide.reserveFetch
  dsimp only
  split <;> rfl

theorem HostSide.reserveFetch_tracker (h : HostSide) (i : RingId) (n : Nat) :
    (h.reserveFetch i n).tracker = { h.tracker with
      reserved := if i = 0 then h.tracker.reserved else h.tracker.reserved + n } := by
  unfold HostSide.reserveFetch
  dsimp only
  split <;> rfl

/-- The start of a fetch reserves what it promises (R157). -/
theorem HostSide.Credit.startFetch {h : HostSide} (c : h.Credit none) {i : RingId} (hnone : h.engine.fetch = none)
    (hi : h.served = some i) : (h.reserveFetch i (h.fetchCount i)).Credit none := by
  obtain ⟨hactive, _, hqactive, _, hidle, _⟩ := HostSide.served_eq_some hi
  have hpresent : (h.rq i).state ≠ .absent := by rw [hactive]; nofun
  obtain ⟨hone, hcredit, hzero, hslots⟩ := HostSide.fetchCount_bounds hi (c.rings i hpresent).2
  generalize h.fetchCount i = n at hone hcredit hzero hslots ⊢
  have hrqstate : ∀ m, ((h.reserveFetch i n).rq m).state = (h.rq m).state := fun m => by
    rw [h.rq_reserveFetch]; split
    case isTrue he => rw [← he]
    case isFalse => rfl
  have hrqcq : ∀ m, ((h.reserveFetch i n).rq m).cq = (h.rq m).cq := fun m => by
    rw [h.rq_reserveFetch]; split
    case isTrue he => rw [← he]
    case isFalse => rfl
  have hrqburst : ∀ m, ((h.reserveFetch i n).rq m).burst = (h.rq m).burst := fun m => by
    rw [h.rq_reserveFetch]; split
    case isTrue he => rw [← he]
    case isFalse => rfl
  have hcq : ∀ d, (h.reserveFetch i n).cq d = { h.cq d with
      reserved := (h.cq d).reserved + if (h.rq i).cq = d then n else 0 } := fun d => by
    rw [h.cq_reserveFetch]; split
    case isTrue he => rw [← he]
    case isFalse => rfl
  have htaken : h.tracker.reserved = 0 := by rw [c.taken, HostSide.slotsTaken, hnone]
  refine ⟨fun d hd => ?_, fun d hd => ?_, fun d hd => ?_, fun m hm => ?_, fun x hx => ?_, ?_, fun f hf hne => ?_, ?_, ?_,
    fun hbusy => ?_, fun id ring k hwait => ?_, fun hoff => ?_⟩
  · rw [hcq] at hd ⊢
    rw [HostSide.boundRings_congr (fun m => by rw [hrqstate]) hrqcq]
    exact c.bound d hd
  · rw [hcq] at hd ⊢
    have hr := c.reserved d hd
    have hold : h.fetchPromised d = 0 := by rw [HostSide.fetchPromised, hnone]
    have hslots : (h.reserveFetch i n).slotPromised d = h.slotPromised d := by
      simp only [HostSide.slotPromised, h.reserveFetch_slots, hrqcq]
    have hcommand : (h.reserveFetch i n).commandPromised d = h.commandPromised d := by
      simp only [HostSide.commandPromised, h.reserveFetch_config, hrqcq]
    rw [HostSide.promised_eq, hold] at hr
    rw [HostSide.promised_eq, HostSide.fetchPromised_of_fetch (h.reserveFetch_fetch i n), hslots, hcommand, hrqcq]
    simp only [List.length_replicate, reduceCtorEq, if_false] at hr ⊢
    omega
  · rw [hcq] at hd ⊢
    have hw := c.within d hd
    dsimp only
    split
    case isTrue he =>
      rw [he, Cq.freeCredit] at hcredit
      omega
    case isFalse => exact hw
  · rw [hrqstate] at hm
    rw [hrqcq, hcq, hrqburst]
    exact c.rings m hm
  · rw [hrqstate]
    rw [h.reserveFetch_slots] at hx
    exact c.slots x hx
  · rw [Tracker.safe, h.reserveFetch_slots]; exact c.distinct
  · rw [h.reserveFetch_fetch] at hf
    cases hf
    rw [hrqstate, h.reserveFetch_config, List.length_replicate]
    exact ⟨hpresent, fun h0 => ⟨hidle h0, hzero h0⟩⟩
  · rw [HostSide.slotsTaken_of_fetch (h.reserveFetch_fetch i n), h.reserveFetch_tracker, List.length_replicate]
    dsimp only
    split <;> omega
  · rw [h.reserveFetch_tracker]
    change (if i = 0 then h.tracker.reserved else h.tracker.reserved + n) ≤ h.tracker.availableSlots.length
    split
    case isTrue => rw [htaken]; exact Nat.zero_le _
    case isFalse h0 =>
      have := hslots h0
      rw [Tracker.reservable] at this
      omega
  · rw [h.reserveFetch_config] at hbusy
    rw [hrqstate]
    exact c.command hbusy
  · rw [h.reserveFetch_config] at hwait
    rw [hrqstate]
    exact c.drain id ring k hwait
  · rw [h.reserveFetch_port] at hoff
    exact absurd ((c.disabled hoff).1 i).1 hpresent

/-! ## Every act -/

/-- The rings after a reset are all ABSENT. -/
theorem QueueEngine.reset_rings (n : RingId) :
    QueueEngine.reset.rqs[n] = Rq.absent ∧ QueueEngine.reset.cqs[n] = Cq.absent := by
  simp [QueueEngine.reset]

/-- Every act keeps the rule of credit (R154). -/
theorem HostSide.Act.credit {h k : HostSide} (hact : h.Act k) (c : h.Credit none) : k.Credit none := by
  cases hact with
  | follow hfollow => exact hfollow.credit c
  | bytes f recs hfetch hlength =>
    have hempty : recs = [] ↔ f.recs = [] := by
      rw [← List.length_eq_zero_iff, ← List.length_eq_zero_iff, hlength]
    refine { c with reserved := fun n hn => ?_, fetch := fun g hg hne => ?_, taken := ?_,
                    disabled := fun hoff => absurd ((c.disabled hoff).2.1.symm.trans hfetch) nofun }
    · have hr := c.reserved n hn
      rw [HostSide.promised_eq, HostSide.fetchPromised_of_fetch hfetch, ← hlength] at hr
      exact hr
    · cases hg
      obtain ⟨hpresent, hzero⟩ := c.fetch f hfetch (mt hempty.mpr hne)
      exact ⟨hpresent, fun hring => ⟨(hzero hring).1, hlength.trans (hzero hring).2⟩⟩
    · have htaken := c.taken
      rw [HostSide.slotsTaken_of_fetch hfetch, ← hlength] at htaken
      exact htaken
  | recordRefused f r rest x hfetch hrecs hx => exact c.refused hfetch hrecs hx
  | recordCommand f r rest id x hfetch hrecs hring => exact c.command_taken hfetch hrecs hring id x
  | recordOccupies f r rest x others hfetch hrecs hring hslot hx =>
    exact c.occupied hfetch hrecs hring ((h.tracker.mem_availableSlots _).mp (hslot ▸ List.mem_cons_self)) hx
  | recordLost f r rest hfetch hrecs hring hslot =>
    have hav := c.available
    have htaken := c.taken
    rw [HostSide.slotsTaken_of_fetch hfetch, if_neg hring, hrecs, List.length_cons] at htaken
    rw [hslot, htaken] at hav
    exact absurd hav (Nat.not_succ_le_zero _)
  | endFetch f hfetch hrecs => exact c.endFetch hfetch hrecs
  | failFetch f hfetch => exact c.giveUp hfetch
  | startFetch i hfetch hserved => exact c.startFetch hfetch hserved
  | portReset =>
    exact .of_absent (fun n => (QueueEngine.reset_rings n).1) (fun n => (QueueEngine.reset_rings n).2) rfl rfl rfl rfl
  | powerOn x n =>
    exact .of_absent (fun n => (QueueEngine.reset_rings n).1) (fun n => (QueueEngine.reset_rings n).2) rfl rfl rfl rfl

end Sys2Proof.Machine
end

section
/-! PROOF. Every operation of the host side's blocks is a run of acts. -/

namespace Sys2Proof.Machine

/-! ## Runs of acts -/

/-- A run of acts that leave the fetch in flight. -/
abbrev HostSide.Follows (h k : HostSide) : Prop := Relation.ReflTransGen HostSide.Follow h k

theorem HostSide.Follow.one {h k : HostSide} (hfollow : h.Follow k) : h.Follows k := .single hfollow

theorem HostSide.Follows.trans {h k l : HostSide} (a : h.Follows k) (b : k.Follows l) : h.Follows l :=
  Relation.ReflTransGen.trans a b

theorem HostSide.handOver_fetch (h : HostSide) (c : Completion) : (h.handOver c).engine.fetch = h.engine.fetch := by
  unfold HostSide.handOver
  dsimp only
  split
  · split
    · rfl
    · rw [HostSide.raise_fetch]; rfl
  · rfl
  · rfl

theorem HostSide.Follow.fetch_eq {h k : HostSide} (hfollow : h.Follow k) : k.engine.fetch = h.engine.fetch := by
  cases hfollow with
  | ask o addr len => obtain ⟨_, _, e⟩ := h.placeRead_eq o addr len; rw [e]; rfl
  | free id => rw [HostSide.freePlace_engine]
  | raise e => rw [HostSide.raise_fetch]
  | postEvents n => obtain ⟨_, _, _, e⟩ := h.postEvents_eq n; rw [e]; rfl
  | complete s x _ _ => exact h.handOver_fetch x
  | endCommand id st n _ => exact HostSide.handOver_fetch _ _
  | endDrain id ring count _ _ => exact HostSide.handOver_fetch _ _
  | _ => rfl

theorem HostSide.Follows.fetch_eq {h k : HostSide} (hrun : h.Follows k) : k.engine.fetch = h.engine.fetch := by
  induction hrun with
  | refl => rfl
  | tail _ hfollow ih => exact hfollow.fetch_eq.trans ih

/-- A run of acts at whose end the fetch in flight has a record left. -/
structure HostSide.Run (h k : HostSide) : Prop where
  acts : Relation.ReflTransGen HostSide.Act h k
  filled : h.Credit none → h.fetchFilled → k.fetchFilled

theorem HostSide.Follows.acts {h k : HostSide} (hrun : h.Follows k) : Relation.ReflTransGen HostSide.Act h k := by
  induction hrun with
  | refl => exact .refl
  | tail _ hfollow ih => exact ih.tail (.follow hfollow)

theorem HostSide.Follows.run {h k : HostSide} (hrun : h.Follows k) : h.Run k :=
  ⟨hrun.acts, fun _ hfilled f hf => hfilled f (hrun.fetch_eq ▸ hf)⟩

/-- What every act keeps, a run of acts keeps. -/
theorem HostSide.Acts.keep {P : HostSide → Prop} (hact : ∀ {h k : HostSide}, h.Act k → P h → P k) {h k : HostSide}
    (hrun : Relation.ReflTransGen HostSide.Act h k) (hh : P h) : P k := by
  induction hrun with
  | refl => exact hh
  | tail _ ha ih => exact hact ha ih

theorem HostSide.Acts.credit {h k : HostSide} (hrun : Relation.ReflTransGen HostSide.Act h k) (c : h.Credit none) :
    k.Credit none := HostSide.Acts.keep HostSide.Act.credit hrun c

theorem HostSide.Run.trans {h k l : HostSide} (a : h.Run k) (b : k.Run l) : h.Run l :=
  ⟨a.acts.trans b.acts, fun c hfilled => b.filled (HostSide.Acts.credit a.acts c) (a.filled c hfilled)⟩

/-- A run that ends without a fetch in flight. -/
theorem HostSide.Run.of_none {h k : HostSide} (hrun : Relation.ReflTransGen HostSide.Act h k)
    (hnone : k.engine.fetch = none) : h.Run k :=
  ⟨hrun, fun _ _ _ hf => absurd (hnone.symm.trans hf) nofun⟩

/-! ## Host reads, slots and their data -/

theorem HostSide.follows_askReads (reads : List (Owner × Nat × Nat)) (h : HostSide) :
    h.Follows (h.askReads reads).1 := by
  induction reads generalizing h with
  | nil => exact .refl
  | cons r rest ih =>
    unfold HostSide.askReads
    split
    · exact .head (.ask h r.1 r.2.1 r.2.2) (ih _)
    · exact .refl

theorem HostSide.follows_modifySlot (h : HostSide) (n : SlotNo) (f : Slot → Slot)
    (hf : ∀ x, (f x).num = x.num ∧ (f x).ring = x.ring) : h.Follows (h.modifySlot n f) := by
  refine (HostSide.Follow.slots h (fun s => if s.num = n then f s else s) fun x => ?_).one
  split
  · exact hf x
  · exact ⟨rfl, rfl⟩

theorem Tracker.mem_of_slot? {t : Tracker} {n : SlotNo} {s : Slot} (hs : t.slot? n = some s) : s ∈ t.slots ∧ s.num = n :=
  ⟨List.mem_of_find?_eq_some hs, by simpa using List.find?_some hs⟩

theorem HostSide.follows_failSlot (h : HostSide) (n : SlotNo) : h.Follows (h.failSlot n) := by
  unfold HostSide.failSlot
  split
  · exact .refl
  · split
    · exact .refl
    · exact .head (.abandon h (Owner.ofSlot n)) (HostSide.follows_modifySlot _ n _ fun _ => ⟨rfl, rfl⟩)

/-- Reads asked for after a change of the host side, with what follows when one fails its window check. -/
theorem HostSide.follows_asked {h k : HostSide} (hrun : h.Follows k) (reads : List (Owner × Nat × Nat))
    {next fail : HostSide → HostSide} (hnext : ∀ l : HostSide, l.Follows (next l))
    (hfail : ∀ l : HostSide, l.Follows (fail l)) :
    h.Follows (match k.askReads reads with | (l, true) => next l | (l, false) => fail l) := by
  have hreads := hrun.trans (k.follows_askReads reads)
  split
  case h_1 l he => rw [he] at hreads; exact hreads.trans (hnext l)
  case h_2 l he => rw [he] at hreads; exact hreads.trans (hfail l)

theorem HostSide.follows_stage (k : Nat) (n : SlotNo) (h : HostSide) : h.Follows (h.stage k n) := by
  induction k generalizing h with
  | zero => exact .refl
  | succ k ih =>
    unfold HostSide.stage
    split
    · exact .refl
    · split
      · exact HostSide.follows_asked (h.follows_modifySlot n
          (fun s => { s with staging := s.staging ++ [{ gran := s.askNext, pieces := [] }], askNext := s.askNext + 1 })
          fun _ => ⟨rfl, rfl⟩) _ ih fun l => l.follows_failSlot n
      · exact .refl

theorem HostSide.follows_beginIssue (h : HostSide) (n : SlotNo) : h.Follows (h.beginIssue n) :=
  (h.follows_modifySlot n (fun s => { s with state := .issuing }) fun _ => ⟨rfl, rfl⟩).trans
    (HostSide.follows_stage _ n _)

theorem HostSide.follows_beginWork (h : HostSide) (n : SlotNo) : h.Follows (h.beginWork n) := by
  unfold HostSide.beginWork
  split
  · exact .refl
  · split
    · exact HostSide.follows_asked (next := id) (h.follows_modifySlot n (fun s => { s with state := .loadingList })
        fun _ => ⟨rfl, rfl⟩) _ (fun _ => .refl) fun l => l.follows_failSlot n
    · exact h.follows_beginIssue n

/-! ## Completions -/

theorem HostSide.follows_releaseFence (h : HostSide) (ring : RingId) : h.Follows (h.releaseFence ring) := by
  unfold HostSide.releaseFence
  split
  · split
    · exact h.follows_beginWork _
    · exact .refl
  · exact .refl

theorem HostSide.follows_completeSlot (h : HostSide) {s : Slot} (hs : s ∈ h.tracker.slots) :
    h.Follows (h.completeSlot s) := by
  have hmem : { s with state := SlotState.completing } ∈
      (h.modifySlot s.num fun x => { x with state := .completing }).tracker.slots :=
    List.mem_map.mpr ⟨s, hs, if_pos rfl⟩
  have hcomplete := HostSide.Follow.complete (h.modifySlot s.num fun x => { x with state := .completing }) _ s.completion
    hmem rfl
  unfold HostSide.completeSlot HostSide.freeSlot
  rw [HostSide.handOver_tracker]
  exact ((h.follows_modifySlot s.num (fun x => { x with state := .completing }) fun _ => ⟨rfl, rfl⟩).tail hcomplete).trans (HostSide.follows_releaseFence _ _)

theorem HostSide.follows_settleSlots (k : Nat) (h : HostSide) : h.Follows (h.settleSlots k) := by
  induction k generalizing h with
  | zero => exact .refl
  | succ k ih =>
    unfold HostSide.settleSlots
    split
    · exact .refl
    case h_2 s hs => exact (h.follows_completeSlot (List.mem_of_find?_eq_some hs)).trans (ih _)

theorem HostSide.follows_endDrain (h : HostSide) : h.Follows h.endDrain := by
  unfold HostSide.endDrain
  split
  case h_1 id ring count hwait =>
    split
    case isTrue hdrained => exact (HostSide.Follow.endDrain h id ring count hwait hdrained).one
    case isFalse => exact .refl
  case h_2 => exact .refl
  case h_3 => exact .refl

theorem HostSide.follows_settle (h : HostSide) : h.Follows h.settle :=
  (HostSide.follows_settleSlots _ h).trans (HostSide.follows_endDrain _)

theorem HostSide.follows_raiseAll (es : List Event) (h : HostSide) : h.Follows (h.raiseAll es) := by
  induction es generalizing h with
  | nil => exact .refl
  | cons e es ih => exact .head (.raise h e) (ih _)

/-! ## Operations and their results -/

theorem HostSide.follows_deliver (n : SlotNo) (writes : List (Nat × List Byte)) (h : HostSide) :
    h.Follows (h.deliver n writes) := by
  induction writes generalizing h with
  | nil => exact .refl
  | cons w rest ih =>
    unfold HostSide.deliver HostSide.postWrite
    split
    case h_1 l he =>
      split at he
      · cases he; exact .head (.send h _) (ih _)
      · cases he
    case h_2 l he =>
      split at he
      · cases he
      · cases he; exact h.follows_failSlot n

theorem Slot.checkIssued_kept (s : Slot) : s.checkIssued.num = s.num ∧ s.checkIssued.ring = s.ring := by
  unfold Slot.checkIssued
  split <;> exact ⟨rfl, rfl⟩

theorem Slot.afterIssue_kept (s : Slot) (st : Stride) (op : BankOp) :
    (s.afterIssue st op).num = s.num ∧ (s.afterIssue st op).ring = s.ring := by
  unfold Slot.afterIssue
  dsimp only
  obtain ⟨hnum, hring⟩ := Slot.checkIssued_kept (if s.isDest op = true then _ else if s.req.kind = .copy then _ else _)
  rw [hnum, hring]
  split
  · exact ⟨rfl, rfl⟩
  · split
    · exact ⟨rfl, rfl⟩
    · split <;> exact ⟨rfl, rfl⟩

theorem Slot.decideDest_kept (s : Slot) (j : Nat) : (s.decideDest j).num = s.num ∧ (s.decideDest j).ring = s.ring := by
  unfold Slot.decideDest
  dsimp only
  split
  · split <;> exact ⟨rfl, rfl⟩
  · exact ⟨rfl, rfl⟩

theorem Slot.foldl_decideDest_kept (js : List Nat) (s : Slot) :
    (js.foldl Slot.decideDest s).num = s.num ∧ (js.foldl Slot.decideDest s).ring = s.ring := by
  induction js generalizing s with
  | nil => exact ⟨rfl, rfl⟩
  | cons j js ih =>
    obtain ⟨hnum, hring⟩ := s.decideDest_kept j
    rw [List.foldl_cons]
    exact ⟨(ih _).1.trans hnum, (ih _).2.trans hring⟩

theorem Slot.keepSource_kept (s : Slot) (k : Nat) (result : OpResult) (data : Block) :
    (s.keepSource k result data).num = s.num ∧ (s.keepSource k result data).ring = s.ring := by
  unfold Slot.keepSource
  dsimp only
  obtain ⟨hnum, hring⟩ := Slot.checkIssued_kept ((s.req.feeds k).foldl Slot.decideDest _)
  rw [hnum, hring]
  exact Slot.foldl_decideDest_kept _ _

theorem HostSide.follows_gather (h : HostSide) (st : Stride) (s : Slot) (e : OpEnd) : h.Follows (h.gather st s e) := by
  unfold HostSide.gather
  dsimp only
  have hdelivered : h.Follows (if s.req.kind = .read ∧ e.result ≠ .channelFailed ∧ s.hostAccess = false ∧ s.aborted = false
      then h.deliver s.num (s.delivery (s.opAddress st e.op) e.data) else h) := by
    split
    · exact HostSide.follows_deliver _ _ h
    · exact .refl
  have hcounted := hdelivered.trans (HostSide.follows_modifySlot _ s.num
    (fun x => x.count (s.opAddress st e.op) e.result) fun _ => ⟨rfl, rfl⟩)
  split
  · exact hcounted.trans (HostSide.follows_modifySlot _ s.num _ fun x => x.keepSource_kept _ _ _)
  · exact hcounted

theorem HostSide.follows_resultBack (h : HostSide) (st : Stride) (e : OpEnd) : h.Follows (h.resultBack st e) := by
  unfold HostSide.resultBack
  split
  case h_1 n tag _ =>
    have hback := (HostSide.Follow.back h n).one
    dsimp only
    split
    · split
      · exact hback.trans (HostSide.follows_gather _ st _ e)
      · exact hback
    · exact hback
  case h_2 => exact .refl
  case h_3 => exact .refl
  case h_4 => exact .refl

theorem HostSide.follows_resultsBack (st : Stride) (es : List OpEnd) (h : HostSide) :
    h.Follows (es.foldl (fun h e => h.resultBack st e) h) := by
  induction es generalizing h with
  | nil => exact .refl
  | cons e es ih => exact (h.follows_resultBack st e).trans (ih _)

theorem HostSide.follows_issued (h : HostSide) (st : Stride) {n : SlotNo} (op : BankOp) (hn : h.tracker.slot? n ≠ none) :
    h.Follows (h.issued st n op) :=
  .head (.issue h n hn) ((HostSide.follows_modifySlot _ n _ fun x => x.afterIssue_kept st op).trans
    (HostSide.follows_stage _ n _))

/-! ## Between the two sides -/

theorem State.follows_placeOp (s : State) {n : SlotNo} (o : BankOp) (hn : s.host.tracker.slot? n ≠ none) :
    s.host.Follows (s.placeOp n o).host := by
  have hissued := s.host.follows_issued s.pool.control.stride o hn
  unfold State.placeOp
  dsimp only
  split
  · exact hissued.trans (HostSide.follows_resultBack _ _ _)
  · exact hissued

/-- The operation admitted first is the held one of an occupied slot. -/
theorem Tracker.slot?_of_waitingFor {t : Tracker} {f : BankOp → Bool} {n : SlotNo} {o : BankOp}
    (hw : t.waitingFor f = some (n, o)) : t.slot? n ≠ none := by
  obtain ⟨x, hx, hheld⟩ := List.exists_of_findSome?_eq_some hw
  have hnum : x.num = n := by
    split at hheld
    · split at hheld
      · cases hheld; rfl
      · cases hheld
    · cases hheld
  exact fun hnone => (t.slot?_eq_none_iff n).mp hnone x hx hnum

theorem State.follows_admitNext (f : BankNo → Bool) (k : Nat) (s : State) : s.host.Follows (s.admitNext f k).host := by
  induction k generalizing s with
  | zero => exact .refl
  | succ k ih =>
    unfold State.admitNext
    split
    case h_1 n o hw => exact (s.follows_placeOp o (Tracker.slot?_of_waitingFor hw)).trans (ih _)
    case h_2 => exact .refl

theorem State.follows_deliverEvents (s : State) (w : Work) : s.host.Follows (s.deliverEvents w).host :=
  HostSide.follows_raiseAll _ _

theorem State.follows_deliver (s : State) (w : Work) (f : BankNo → Bool) : s.host.Follows (s.deliver w f).host := by
  have hadmitted := (s.follows_deliverEvents w).trans
    (State.follows_admitNext f (s.deliverEvents w).host.tracker.slots.length (s.deliverEvents w))
  exact hadmitted.trans ((HostSide.follows_resultsBack _ _ _).trans (HostSide.follows_settle _))

theorem State.follows_completeOp (s : State) (b : BankNo) (eff : PoolSide → InProgress → Option Effect) :
    s.host.Follows (s.completeOp b eff).host := by
  unfold State.completeOp
  split
  · exact .refl
  · split
    · exact .refl
    · exact s.follows_deliver _ _

theorem State.follows_issue (s : State) (n : SlotNo) : s.host.Follows (s.issue n).host := by
  unfold State.issue
  split
  case h_1 => exact .refl
  case h_2 x hx =>
    split
    · split
      · exact .refl
      · split
        · exact (s.follows_placeOp _ (by rw [hx]; nofun)).trans (HostSide.follows_settle _)
        · exact s.host.follows_modifySlot n _ fun _ => ⟨rfl, rfl⟩
    · exact .refl

theorem State.follows_signal (s : State) (target : SignalTarget) (c : ChanNo) :
    s.host.Follows (s.signal target c).host := by
  cases target with
  | poolControl => exact s.follows_deliverEvents _
  | migrationController => exact .refl
  | healthMonitor => exact .refl
  | tracker => exact (State.follows_admitNext _ _ s).trans (HostSide.follows_settle _)

end Sys2Proof.Machine
end

section
/-! PROOF. Record fetches and the ends of host reads as runs of acts. -/

namespace Sys2Proof.Machine

/-! ## Record fetches -/

theorem HostSide.advance_tags (h : HostSide) (f : Fetch) (rest : List (Option Block)) :
    (h.advance f rest).tracker.tags = h.tracker.tags := by
  unfold HostSide.advance
  dsimp only
  split <;> rfl

/-- Intake of a record of a data ring. -/
theorem HostSide.acts_takeRecord {h k : HostSide} (ps : PoolState) {f : Fetch} {r : Option Block}
    {rest : List (Option Block)} (hf : h.engine.fetch = some f) (hrecs : f.recs = r :: rest) (hring : f.ring ≠ 0)
    (hk : k.setTracker { k.tracker with reserved := k.tracker.reserved - 1 } = h.advance f rest) (b : Block) :
    Relation.ReflTransGen HostSide.Act h (k.takeRecord ps f.ring b) := by
  have hrefused : ∀ c : Completion, c.ring = f.ring → Relation.ReflTransGen HostSide.Act h ((h.advance f rest).handOver c) :=
    fun c hc => .single (.recordRefused h f r rest c hf hrecs hc)
  unfold HostSide.takeRecord
  dsimp only
  rw [hk]
  split
  case h_1 => exact hrefused _ rfl
  case h_2 q _ =>
    split
    case h_1 => exact hrefused _ rfl
    case h_2 =>
      unfold HostSide.occupy
      rw [h.advance_availableSlots]
      split
      case h_1 hnone => exact .single (.recordLost h f r rest hf hrecs hring hnone)
      case h_2 n others hsome =>
        dsimp only
        rw [h.advance_slots, h.advance_tags]
        have hoccupies := fun state => HostSide.Act.recordOccupies h f r rest
          (Slot.fresh n (h.tracker.tags[n] + 1) f.ring q state) others hf hrecs hring hsome rfl
        split
        case isTrue => exact .single (hoccupies _)
        case isFalse => exact .head (hoccupies _) (HostSide.follows_beginWork _ n).acts

/-- Intake of the record of RQ0. -/
theorem HostSide.acts_takeCommand {h k : HostSide} {f : Fetch} {r : Option Block} {rest : List (Option Block)}
    (hf : h.engine.fetch = some f) (hrecs : f.recs = r :: rest) (hring : f.ring = 0) (hk : k = h.advance f rest)
    (b : Block) : Relation.ReflTransGen HostSide.Act h (k.takeCommand b) := by
  unfold HostSide.takeCommand
  rw [hk]
  split
  · exact .single (.recordRefused h f r rest _ hf hrecs hring.symm)
  · exact .single (.recordCommand h f r rest _ _ hf hrecs hring)

theorem HostSide.takeCommand_fetch (h : HostSide) (b : Block) : (h.takeCommand b).engine.fetch = h.engine.fetch := by
  unfold HostSide.takeCommand
  split
  · exact h.handOver_fetch _
  · rfl

theorem HostSide.takeRecord_fetch (h : HostSide) (ps : PoolState) (ring : RingId) (b : Block) :
    (h.takeRecord ps ring b).engine.fetch = h.engine.fetch := by
  unfold HostSide.takeRecord
  dsimp only
  split
  · exact HostSide.handOver_fetch _ _
  · split
    · exact HostSide.handOver_fetch _ _
    · unfold HostSide.occupy
      split
      · rfl
      · dsimp only
        split
        · rfl
        · exact (HostSide.follows_beginWork _ _).fetch_eq

/-- Records handed over: a run of acts, at whose end, with enough hand-overs allowed, the fetch has a record left or has
ended. -/
theorem HostSide.acts_handRecords (ps : PoolState) (k : Nat) (h : HostSide) :
    Relation.ReflTransGen HostSide.Act h (HostSide.handRecords ps k h)
      ∧ ((∀ f, h.engine.fetch = some f → f.recs.length < k) → (HostSide.handRecords ps k h).fetchFilled) := by
  induction k generalizing h with
  | zero => exact ⟨.refl, fun hk f hf => absurd (hk f hf) (Nat.not_lt_zero _)⟩
  | succ k ih =>
    unfold HostSide.handRecords
    split
    case h_1 hnone => exact ⟨.refl, fun _ f hf => absurd (hnone.symm.trans hf) nofun⟩
    case h_2 f hf =>
      split
      case h_1 hrecs =>
        refine ⟨.head (.endFetch h f hf hrecs) (HostSide.follows_settle _).acts, fun _ g hg => ?_⟩
        rw [(HostSide.follows_settle _).fetch_eq] at hg
        nomatch hg
      case h_2 rest hrecs =>
        refine ⟨.refl, fun _ g hg => ?_⟩
        rw [hf] at hg
        cases hg
        rw [hrecs]; nofun
      case h_3 r rest hrecs =>
        dsimp only
        have htaken : Relation.ReflTransGen HostSide.Act h (if f.ring = 0 then
            (((h.setRq f.ring { h.rq f.ring with head := ((h.rq f.ring).head + 1) % (h.rq f.ring).size }).setFetch
              (some { f with handed := f.handed + 1, recs := rest })).takeCommand r)
            else (((h.setRq f.ring { h.rq f.ring with head := ((h.rq f.ring).head + 1) % (h.rq f.ring).size }).setFetch
              (some { f with handed := f.handed + 1, recs := rest })).takeRecord ps f.ring r)) := by
          split
          case isTrue hring => exact HostSide.acts_takeCommand hf hrecs hring (if_pos hring).symm r
          case isFalse hring => exact HostSide.acts_takeRecord ps hf hrecs hring (if_neg hring).symm r
        obtain ⟨hacts, hfilled⟩ := ih (HostSide.settle (if f.ring = 0 then _ else _))
        refine ⟨(htaken.trans (HostSide.follows_settle _).acts).trans hacts, fun hk => hfilled fun g hg => ?_⟩
        have hlength := hk f hf
        rw [hrecs, List.length_cons] at hlength
        rw [(HostSide.follows_settle _).fetch_eq] at hg
        split at hg
        · rw [HostSide.takeCommand_fetch] at hg
          cases hg
          exact Nat.lt_of_succ_lt_succ hlength
        · rw [HostSide.takeRecord_fetch] at hg
          cases hg
          exact Nat.lt_of_succ_lt_succ hlength

theorem fillRecords_length (places : List (Option Block)) (i : Nat) (rs : List Block) :
    (fillRecords places i rs).length = places.length := by
  induction places, i, rs using fillRecords.induct with
  | case1 places i => simp [fillRecords]
  | case2 i rs hrs => simp [fillRecords]
  | case3 x places r rs ih => simp [fillRecords, ih]
  | case4 x places i rs hrs ih => simp [fillRecords, ih]

theorem HostSide.run_fetchData (h : HostSide) (ps : PoolState) (first : Nat) (bytes : List Byte) :
    h.Run (h.fetchData ps first bytes) := by
  unfold HostSide.fetchData
  split
  case h_1 hnone => exact .of_none .refl hnone
  case h_2 f hf =>
    dsimp only
    obtain ⟨hacts, hfilled⟩ := HostSide.acts_handRecords ps
      ((fillRecords f.recs (first - f.handed) (recordsOf (bytes.length / 64) bytes)).length + 1)
      (h.setFetch (some { f with recs := fillRecords f.recs (first - f.handed) (recordsOf (bytes.length / 64) bytes) }))
    refine ⟨.head (.bytes h f _ hf (fillRecords_length _ _ _)) hacts, fun _ _ => hfilled fun g hg => ?_⟩
    cases hg
    exact Nat.lt_succ_self _

theorem HostSide.giveUpFetch_fetch (h : HostSide) (f : Fetch) : (h.giveUpFetch f).engine.fetch = none := by
  unfold HostSide.giveUpFetch
  dsimp only
  split <;> rfl

theorem HostSide.run_failFetch (h : HostSide) : h.Run h.failFetch := by
  unfold HostSide.failFetch
  split
  case h_1 hnone => exact .of_none .refl hnone
  case h_2 f hf =>
    have hgiven : Relation.ReflTransGen HostSide.Act h ((h.abandonReads Owner.isFetch).giveUpFetch f) :=
      .head (.follow (.abandon h Owner.isFetch)) (.single (.failFetch _ f hf))
    have hnone := (h.abandonReads Owner.isFetch).giveUpFetch_fetch f
    have htold : HostSide.Follows ((h.abandonReads Owner.isFetch).giveUpFetch f)
        (if (h.rq f.ring).state = .faulted then (h.abandonReads Owner.isFetch).giveUpFetch f
        else ((h.abandonReads Owner.isFetch).giveUpFetch f).raise (.queueFault .request f.ring .fetchFailed)) := by
      split
      · exact .refl
      · exact (HostSide.Follow.raise _ _).one
    have hsettled := htold.trans (HostSide.follows_settle _)
    exact .of_none (hgiven.trans hsettled.acts) (hsettled.fetch_eq.trans hnone)

theorem HostSide.run_startFetch (h : HostSide) : h.Run h.startFetch := by
  unfold HostSide.startFetch
  split
  case h_1 i hnone hi =>
    dsimp only
    have hstart : h.Run (h.reserveFetch i (h.fetchCount i)) := by
      refine ⟨.single (.startFetch h i hnone hi), fun c _ f hf => ?_⟩
      obtain ⟨hactive, _⟩ := HostSide.served_eq_some hi
      have hone := (HostSide.fetchCount_bounds hi (c.rings i (by rw [hactive]; nofun)).2).1
      rw [HostSide.reserveFetch_fetch] at hf
      cases hf
      exact List.ne_nil_of_length_pos (by rw [List.length_replicate]; exact hone)
    have hasked := hstart.trans (HostSide.follows_askReads ((h.rq i).fetchReads (h.fetchCount i)) _).run
    split
    case h_1 l he => rw [he] at hasked; exact hasked
    case h_2 l he => rw [he] at hasked; exact hasked.trans l.run_failFetch
  case h_2 => exact HostSide.Follows.run .refl
  case h_3 => exact HostSide.Follows.run .refl

/-! ## Ends of host reads -/

theorem HostSide.follows_judgeList (h : HostSide) (n : SlotNo) : h.Follows (h.judgeList n) := by
  unfold HostSide.judgeList
  split
  · exact .refl
  case h_2 s _ =>
    dsimp only
    split
    · exact (h.follows_modifySlot n (fun x => { x with
        list := listEntries s.req.listCount (pieceBytes s.listPieces), listPieces := [] })
        fun _ => ⟨rfl, rfl⟩).trans (HostSide.follows_beginIssue _ n)
    · exact h.follows_modifySlot n _ fun _ => ⟨rfl, rfl⟩

theorem HostSide.follows_listData (h : HostSide) (n : SlotNo) (off : Nat) (bytes : List Byte) :
    h.Follows (h.listData n off bytes) := by
  have hkept := h.follows_modifySlot n
    (fun s => { s with listPieces := insertPiece { offset := off, bytes := bytes } s.listPieces }) fun _ => ⟨rfl, rfl⟩
  unfold HostSide.listData
  dsimp only
  split
  · exact hkept
  · exact hkept.trans ((HostSide.follows_judgeList _ n).trans (HostSide.follows_settle _))

theorem HostSide.follows_stagedData (h : HostSide) (n : SlotNo) (g off : Nat) (bytes : List Byte) :
    h.Follows (h.stagedData n g off bytes) := h.follows_modifySlot n _ fun _ => ⟨rfl, rfl⟩

theorem HostSide.follows_completeCommand {h : HostSide} (hbusy : h.config ≠ .idle) (id : BitVec 16) (st : Status)
    (n : Nat) : h.Follows (h.completeCommand id st n) := (HostSide.Follow.endCommand h id st n hbusy).one

theorem State.follows_loadMap {s : State} (hbusy : s.host.config ≠ .idle) (id : BitVec 16) (es : List MapEntry) :
    s.host.Follows (s.loadMap id es).host := by
  unfold State.loadMap
  split
  · exact HostSide.follows_completeCommand hbusy _ _ _
  · exact HostSide.follows_completeCommand hbusy _ _ _

theorem State.follows_imageData (s : State) (off : Nat) (bytes : List Byte) :
    s.host.Follows (s.imageData off bytes).host := by
  unfold State.imageData
  split
  case h_1 id n addr ps hconfig =>
    have hbusy : s.host.config ≠ .idle := by rw [hconfig]; nofun
    dsimp only
    split
    · exact (HostSide.Follow.image s.host id _ _ hbusy).one
    · exact State.follows_loadMap hbusy _ _
  case h_2 => exact .refl
  case h_3 => exact .refl
  case h_4 => exact .refl

theorem HostSide.follows_failImage (h : HostSide) : h.Follows h.failImage := by
  unfold HostSide.failImage
  split
  case h_1 id _ _ _ hconfig =>
    have hbusy : h.config ≠ .idle := by rw [hconfig]; nofun
    exact .head (.abandon h Owner.isImage)
      (HostSide.follows_completeCommand (h := h.abandonReads Owner.isImage) hbusy _ _ _)
  case h_2 => exact .refl
  case h_3 => exact .refl
  case h_4 => exact .refl

theorem State.run_readDone (s : State) (o : Owner) (bytes : List Byte) : s.host.Run (s.readDone o bytes).host := by
  cases o with
  | fetch first => exact s.host.run_fetchData _ first bytes
  | slotList n off => exact (s.host.follows_listData n off bytes).run
  | slotData n g off => exact (s.host.follows_stagedData n g off bytes).run
  | image off => exact (s.follows_imageData off bytes).run

theorem HostSide.run_readFailed (h : HostSide) (o : Owner) : h.Run (h.readFailed o) := by
  cases o with
  | fetch first => exact h.run_failFetch
  | slotList n off => exact ((h.follows_failSlot n).trans (HostSide.follows_settle _)).run
  | slotData n g off => exact ((h.follows_failSlot n).trans (HostSide.follows_settle _)).run
  | image off => exact h.follows_failImage.run

theorem HostSide.follows_endRead (h : HostSide) (id : Nat) : h.Follows (h.endRead id) :=
  (HostSide.Follow.port h { h.port with sent := h.port.sent.map fun r =>
    if r.read.id = id then { r with abandoned := true } else r } rfl (List.length_map _) rfl).one

theorem HostSide.run_failRead (h : HostSide) (r : SentRead) : h.Run (h.failRead r) := by
  unfold HostSide.failRead
  refine HostSide.Run.trans ?_ (HostSide.Follow.free _ r.read.id).one.run
  split
  · exact HostSide.Follows.run .refl
  · exact (h.follows_endRead r.read.id).run.trans (HostSide.run_readFailed _ _)

theorem State.run_answerData (s : State) (r : SentRead) (off : Nat) (bytes : List Byte) :
    s.host.Run (s.answerData r off bytes).host := by
  unfold State.answerData
  dsimp only
  split
  case h_1 all _ =>
    refine HostSide.Run.trans ?_ (HostSide.Follow.free _ r.read.id).one.run
    split
    · exact HostSide.Follows.run .refl
    · exact (s.host.follows_endRead r.read.id).run.trans
        (State.run_readDone (s.setHost (s.host.endRead r.read.id)) r.read.owner all)
  case h_2 =>
    exact (HostSide.Follow.port s.host { s.host.port with sent := s.host.port.sent.map fun x =>
      if x.read.id = r.read.id then { x with bytes := fillBytes r.bytes off bytes } else x } rfl (List.length_map _)
      rfl).one.run

end Sys2Proof.Machine
end

section
/-! PROOF. The window, the configuration commands and the port's commands as runs of acts, and with them every command: the
bounds of the host side's collections. -/

namespace Sys2Proof.Machine

/-! ## The register window -/

theorem HostSide.follows_writeTail (h : HostSide) (n : RingId) (v : BitVec 32) : h.Follows (h.writeTail n v) := by
  unfold HostSide.writeTail
  dsimp only
  split
  case isTrue hactive =>
    split
    · exact (HostSide.Follow.request h n { h.rq n with tail := v.toNat } Iff.rfl rfl rfl).one
    · exact (HostSide.Follow.request h n { h.rq n with state := .faulted } (by rw [hactive]; simp) rfl rfl).one.trans
        (HostSide.Follow.raise _ _).one
  case isFalse => exact .refl

theorem HostSide.follows_writeCqHead (h : HostSide) (n : RingId) (v : BitVec 32) : h.Follows (h.writeCqHead n v) := by
  unfold HostSide.writeCqHead
  dsimp only
  split
  case isTrue hactive =>
    split
    · exact (HostSide.Follow.consume h n { h.cq n with
        head := v.toNat, unconsumed := (h.cq n).unconsumed - consumed v.toNat (h.cq n).head (h.cq n).size, armed := true }
        hactive (by rw [hactive]; nofun) rfl rfl rfl (Nat.sub_le _ _)).one
    · exact (HostSide.Follow.consume h n { h.cq n with state := .faulted } hactive nofun rfl rfl rfl (Nat.le_refl _)).one.trans
        (HostSide.Follow.raise _ _).one
  case isFalse => exact .refl

theorem HostSide.follows_writeEqHead (h : HostSide) (v : BitVec 32) : h.Follows (h.writeEqHead v) := by
  unfold HostSide.writeEqHead
  dsimp only
  split
  · split
    · split
      · exact (HostSide.Follow.eventRing h _).one
      · exact (HostSide.Follow.eventRing h _).one.trans (HostSide.Follow.postEvents _ _).one
    · exact (HostSide.Follow.eventRing h _).one.trans (HostSide.Follow.raise _ _).one
  · exact .refl

theorem HostSide.run_portReset (h : HostSide) : h.Run h.portReset := .of_none (.single (.portReset h)) rfl

theorem HostSide.run_writeControl (h : HostSide) (en : Bool) : h.Run (h.writeControl en) := by
  unfold HostSide.writeControl
  split
  case isTrue hen =>
    cases en with
    | false => exact h.run_portReset
    | true =>
      have hoff : h.port.enable = false := by simpa using hen.2
      change h.Run h.enable
      unfold HostSide.enable
      split
      · exact (HostSide.Follow.pair h { h.port with enable := true, configError := false } hoff rfl rfl rfl).one.run
      · exact (HostSide.Follow.port h { h.port with configError := true } rfl rfl rfl).one.run
  case isFalse => exact HostSide.Follows.run .refl

theorem HostPort.writeConfig_kept (p : HostPort) (off : Nat) (v : BitVec 32) :
    (p.writeConfig off v).enable = p.enable ∧ (p.writeConfig off v).sent = p.sent
      ∧ (p.writeConfig off v).waiting = p.waiting := by
  unfold HostPort.writeConfig
  dsimp only
  split
  · exact ⟨rfl, rfl, rfl⟩
  · split
    · exact ⟨rfl, rfl, rfl⟩
    · split
      · exact ⟨rfl, rfl, rfl⟩
      · split <;> exact ⟨rfl, rfl, rfl⟩

theorem HostSide.run_writeWord (h : HostSide) (off : Nat) (v : BitVec 32) : h.Run (h.writeWord off v) := by
  unfold HostSide.writeWord
  split
  · exact h.run_writeControl _
  · split
    · split
      · exact HostSide.Follows.run .refl
      · obtain ⟨henable, hsent, hwaiting⟩ := h.port.writeConfig_kept off v
        exact (HostSide.Follow.port h _ henable (by rw [hsent]) hwaiting).one.run
    · split
      · exact (h.follows_writeTail _ v).run
      · split
        · exact (h.follows_writeCqHead _ v).run
        · split
          · exact (h.follows_writeEqHead v).run
          · exact HostSide.Follows.run .refl

theorem HostSide.run_writeWindow (h : HostSide) (off size : Nat) (v : BitVec 64) : h.Run (h.writeWindow off size v) := by
  unfold HostSide.writeWindow
  split
  · exact h.run_writeWord off _
  · split
    · exact (h.run_writeWord off _).trans (HostSide.run_writeWord _ (off + 4) _)
    · exact HostSide.Follows.run .refl

/-- A register write reaches the window only while the link is up. -/
theorem HostSide.run_onLink (h : HostSide) {f : HostSide → HostSide} (hf : h.Run (f h)) : h.Run (h.onLink f) := by
  unfold HostSide.onLink
  split
  · exact hf
  · exact HostSide.Follows.run .refl

theorem HostSide.run_functionReset (h : HostSide) : h.Run h.functionReset :=
  h.run_portReset.trans (HostSide.Follow.port h.portReset h.portReset.port.resetRegisters rfl rfl rfl).one.run

/-- A function-level reset that also sets whether the link is up. -/
theorem HostSide.run_resetLink (h : HostSide) (up : Bool) :
    h.Run (h.functionReset.setPort { h.functionReset.port with linkUp := up }) :=
  h.run_functionReset.trans (HostSide.Follow.port _ { h.functionReset.port with linkUp := up } rfl rfl rfl).one.run

/-! ## The configuration commands -/

/-- What a QUEUE CREATE that is not refused rests on (R173). -/
theorem HostSide.createRefusal?_eq_none {h : HostSide} {kind n size base : Nat} {byte16 byte17 : Byte}
    (hnone : h.createRefusal? kind n size base byte16 byte17 = none) :
    h.ringPresent kind (Fin.ofNat 32 n) = false ∧ 1 ≤ n ∧ n ≤ 31
      ∧ (kind = 1 → 1 ≤ byte17.toNat ∧ (h.cq (Fin.ofNat 32 byte16.toNat)).state = .active) := by
  unfold HostSide.createRefusal? at hnone
  split at hnone
  case isTrue => nomatch hnone
  split at hnone
  case isTrue => nomatch hnone
  rename_i hn
  split at hnone
  case isTrue => nomatch hnone
  rename_i hfree
  refine ⟨by simpa using hfree, by omega, by omega, fun hkind => ?_⟩
  subst hkind
  simp only [if_true] at hnone
  split at hnone
  case isTrue => nomatch hnone
  split at hnone
  case isTrue => nomatch hnone
  split at hnone
  case isTrue => nomatch hnone
  split at hnone
  case isTrue => nomatch hnone
  rename_i hburst
  split at hnone
  case isTrue => nomatch hnone
  split at hnone
  case isTrue => nomatch hnone
  rename_i hactive
  exact ⟨by omega, by simpa using hactive⟩

theorem Fin.ofNat_ne_zero {n : Nat} (hlow : 1 ≤ n) (hhigh : n ≤ 31) : (Fin.ofNat 32 n : RingId) ≠ 0 := by
  rw [Ne, Fin.ext_iff]
  simp only [Fin.ofNat, Fin.val_zero]
  omega

theorem HostSide.follows_queueCreate {h : HostSide} (hbusy : h.config ≠ .idle) (id : BitVec 16)
    (kind n size base : Nat) (byte16 byte17 : Byte) : h.Follows (h.queueCreate id kind n size base byte16 byte17) := by
  unfold HostSide.queueCreate
  split
  case h_1 => exact HostSide.follows_completeCommand hbusy _ _ _
  case h_2 hnone =>
    obtain ⟨hfree, hlow, hhigh, hrequest⟩ := HostSide.createRefusal?_eq_none hnone
    have hcreate : h.Follow (h.createRing kind (Fin.ofNat 32 n) size base byte16 byte17) := by
      unfold HostSide.createRing
      by_cases hkind : kind = 1
      · obtain ⟨hburst, hactive⟩ := hrequest hkind
        rw [HostSide.ringPresent, if_pos hkind] at hfree
        rw [if_pos hkind]
        exact .createRq h _ _ base size _ hbusy (Fin.ofNat_ne_zero hlow hhigh) (by simpa using hfree) hactive hburst
      · rw [HostSide.ringPresent, if_neg hkind] at hfree
        rw [if_neg hkind]
        exact .createCq h _ base size _ _ hbusy (by simpa using hfree)
    have hconfig : (h.createRing kind (Fin.ofNat 32 n) size base byte16 byte17).config = h.config := by
      unfold HostSide.createRing
      dsimp only
      split <;> rfl
    exact hcreate.one.trans (HostSide.follows_completeCommand (by rw [hconfig]; exact hbusy) _ _ _)

/-- What a QUEUE DELETE that is not refused rests on (R175). -/
theorem HostSide.deleteRefusal?_eq_none {h : HostSide} {kind n : Nat} (hnone : h.deleteRefusal? kind n = none) :
    h.ringPresent kind (Fin.ofNat 32 n) = true ∧ 1 ≤ n ∧ n ≤ 31 ∧ (kind = 1 ∨ kind = 2)
      ∧ (kind = 2 → (h.cq (Fin.ofNat 32 n)).bound = 0) := by
  unfold HostSide.deleteRefusal? at hnone
  split at hnone
  case isTrue => nomatch hnone
  rename_i hkind
  split at hnone
  case isTrue => nomatch hnone
  rename_i hn
  split at hnone
  case isTrue => nomatch hnone
  rename_i hpresent
  split at hnone
  case isTrue => nomatch hnone
  rename_i hbound
  exact ⟨by simpa using hpresent, by omega, by omega, by omega, fun h2 => by
    simp only [h2, true_and, Nat.not_lt, Nat.le_zero] at hbound; exact hbound⟩

theorem Slot.abort_kept (s : Slot) : s.abort.num = s.num ∧ s.abort.ring = s.ring := by
  unfold Slot.abort
  split <;> exact ⟨rfl, rfl⟩

theorem HostSide.follows_abortRing (h : HostSide) (ring : RingId) : h.Follows (h.abortRing ring) := by
  refine (HostSide.Follow.abandon h _).one.trans (HostSide.Follow.slots _ _ fun x => ?_).one
  split
  · exact x.abort_kept
  · exact ⟨rfl, rfl⟩

theorem HostSide.follows_beginDrain {h : HostSide} (hbusy : h.config ≠ .idle) (id : BitVec 16) {n : RingId} (hn : n ≠ 0)
    (hpresent : (h.rq n).state ≠ .absent) (abort : Bool) : h.Follows (h.beginDrain id n abort) := by
  have hdraining : h.Follows (h.setRq n { h.rq n with state := .draining }) :=
    (HostSide.Follow.request h n { h.rq n with state := .draining } (iff_of_false nofun hpresent) rfl rfl).one
  have hstate : ((h.setRq n { h.rq n with state := .draining }).rq n).state ≠ .absent := by
    rw [HostSide.rq_setRq, if_pos rfl]; nofun
  unfold HostSide.beginDrain
  dsimp only
  refine HostSide.Follows.trans ?_ (HostSide.follows_settle _)
  cases abort with
  | false =>
    exact hdraining.trans
      (HostSide.Follow.beginDrain (h.setRq n { h.rq n with state := .draining }) id n 0 hbusy hn hstate).one
  | true =>
    exact (hdraining.trans (HostSide.follows_abortRing _ n)).trans
      (HostSide.Follow.beginDrain ((h.setRq n { h.rq n with state := .draining }).abortRing n) id n
        (h.tracker.abortCount n) hbusy hn hstate).one

theorem HostSide.follows_queueDelete {h : HostSide} (hbusy : h.config ≠ .idle) (id : BitVec 16) (kind n : Nat)
    (abort : Bool) : h.Follows (h.queueDelete id kind n abort) := by
  unfold HostSide.queueDelete
  split
  case h_1 => exact HostSide.follows_completeCommand hbusy _ _ _
  case h_2 hnone =>
    obtain ⟨hpresent, hlow, hhigh, hkind, hbound⟩ := HostSide.deleteRefusal?_eq_none hnone
    split
    case isTrue h1 =>
      rw [HostSide.ringPresent, if_pos h1] at hpresent
      exact HostSide.follows_beginDrain hbusy id (Fin.ofNat_ne_zero hlow hhigh) (by simpa using hpresent) abort
    case isFalse h1 =>
      rw [HostSide.ringPresent, if_neg h1] at hpresent
      exact (HostSide.Follow.deleteCq h _ hbusy (by simpa using hpresent) (hbound (hkind.resolve_left h1))).one.trans
        (HostSide.follows_completeCommand (h := h.setCq _ Cq.absent) hbusy _ _ _)

theorem HostSide.follows_setEventRing (h : HostSide) (size base vector : Nat) (intEn : Bool) :
    h.Follows (h.setEventRing size base vector intEn) := by
  unfold HostSide.setEventRing
  split
  · exact (HostSide.Follow.eventRing h _).one
  · exact (HostSide.Follow.eventRing h _).one.trans (HostSide.Follow.postEvents _ _).one

theorem HostSide.setEventRing_config (h : HostSide) (size base vector : Nat) (intEn : Bool) :
    (h.setEventRing size base vector intEn).config = h.config := by
  unfold HostSide.setEventRing
  split
  · rfl
  · obtain ⟨_, _, _, e⟩ := HostSide.postEvents_eq h.events.entries.length (h.setEq (EvRing.created base size vector intEn))
    rw [e]; rfl

/-- Posted writes change only what was sent. -/
theorem HostSide.postRun_eq (entries : List (List Byte)) (h : HostSide) (addr : Nat) :
    ∃ o, (h.postRun addr entries).1 = h.setOut o := by
  induction entries generalizing h addr with
  | nil => exact ⟨h.out, rfl⟩
  | cons bytes rest ih =>
    unfold HostSide.postRun HostSide.postWrite
    by_cases hin : h.port.inWindow addr bytes.length = true
    · obtain ⟨o, e⟩ := ih (h.setOut (h.out ++ [.write addr bytes])) (addr + bytes.length)
      exact ⟨o, by simp only [hin, if_true]; exact e⟩
    · exact ⟨h.out, by simp [hin]; rfl⟩

theorem HostSide.follows_writeOut {h : HostSide} (hbusy : h.config ≠ .idle) (id : BitVec 16) (snapshot : List (List Byte))
    (capacity host : Nat) : h.Follows (h.writeOut id snapshot capacity host) := by
  obtain ⟨o, ho⟩ := HostSide.postRun_eq (snapshot.take capacity) h host
  have hsent : h.Follows (h.setOut o) := (HostSide.Follow.send h o).one
  unfold HostSide.writeOut
  split
  case h_1 l he =>
    rw [he] at ho
    rw [show l = h.setOut o from ho]
    exact hsent.trans (HostSide.follows_completeCommand (h := h.setOut o) hbusy _ _ _)
  case h_2 l he =>
    rw [he] at ho
    rw [show l = h.setOut o from ho]
    exact hsent.trans (HostSide.follows_completeCommand (h := h.setOut o) hbusy _ _ _)

theorem State.follows_beginLoad {s : State} (hbusy : s.host.config ≠ .idle) (id : BitVec 16) (n host : Nat) :
    s.host.Follows (s.beginLoad id n host).host := by
  unfold State.beginLoad
  split
  · exact State.follows_loadMap hbusy id []
  · have hasked := (HostSide.Follow.image s.host id (.mapLoad n host) (some []) hbusy).one.trans
      (HostSide.follows_askReads (imageReads n host) _)
    split
    case h_1 l he => rw [he] at hasked; exact hasked
    case h_2 l he => rw [he] at hasked; exact hasked.trans l.follows_failImage

theorem State.follows_takeParameters (s : State) (interval threshold : Nat) (enables : BitVec 8) :
    s.host.Follows (s.takeParameters interval threshold enables).host := (HostSide.Follow.enables s.host enables).one

/-! ## Every command -/

/-- Every command is, on the host side, a run of acts. -/
theorem exec_run {c : Instr} {s t : State} (hexec : exec c s = .next t) : s.host.Run t.host := by
  have hidle : s.host.Run s.host := HostSide.Follows.run .refl
  have hpool : ∀ w : Work, s.host.Run (s.deliverEvents w).host := fun w => (s.follows_deliverEvents w).run
  cases c with
  | powerOnReset => cases hexec; exact .of_none (.single (.powerOn _ _ _)) rfl
  | initialisationEnd => cases hexec; exact (HostSide.Follow.port s.host { s.host.port with ready := true } rfl rfl rfl).one.run
  | enableSet => cases hexec; exact s.host.run_onLink (s.host.run_writeControl true)
  | enableClear => cases hexec; exact s.host.run_onLink (s.host.run_writeControl false)
  | functionLevelReset => cases hexec; exact s.host.run_functionReset
  | linkDown => cases hexec; exact s.host.run_resetLink false
  | linkUp =>
    simp only [exec, execLinkUp] at hexec
    split at hexec
    · cases hexec; exact hidle
    · cases hexec; exact s.host.run_resetLink true
  | registerWrite offset size value => cases hexec; exact s.host.run_onLink (f := fun h => h.writeWindow offset size value) (s.host.run_writeWindow offset size value)
  | rqTailWrite ring value => cases hexec; exact s.host.run_onLink (f := fun h => h.writeTail ring value) (s.host.follows_writeTail ring value).run
  | cqHeadWrite ring value => cases hexec; exact s.host.run_onLink (f := fun h => h.writeCqHead ring value) (s.host.follows_writeCqHead ring value).run
  | eqHeadWrite value => cases hexec; exact s.host.run_onLink (f := fun h => h.writeEqHead value) (s.host.follows_writeEqHead value).run
  | hostReadAnswer read part =>
    simp only [exec, execHostReadAnswer] at hexec
    split at hexec
    · cases hexec; exact hidle
    · cases hexec; exact s.host.run_failRead _
    · cases hexec; exact s.run_answerData _ _ _
  | hostReadTimeout read =>
    simp only [exec, execHostReadTimeout] at hexec
    split at hexec
    · cases hexec; exact hidle
    · cases hexec; exact s.host.run_failRead _
  | fetchStart => cases hexec; exact s.host.run_startFetch
  | issueGranuleOperation slot => cases hexec; exact (s.follows_issue slot).run
  | readOperation bank outcome source => cases hexec; exact (s.follows_completeOp bank _).run
  | checkOperation bank outcome source => cases hexec; exact (s.follows_completeOp bank _).run
  | writeOperation bank => cases hexec; exact (s.follows_completeOp bank _).run
  | mergeOperation bank outcome source => cases hexec; exact (s.follows_completeOp bank _).run
  | markOperation bank => cases hexec; exact (s.follows_completeOp bank _).run
  | stepOperation bank source verify =>
    simp only [exec, execStepOperation] at hexec
    split at hexec
    · cases hexec; exact hidle
    · split at hexec
      case h_1 => cases hexec; exact (s.follows_deliver _ _).run
      all_goals cases hexec; exact hidle
  | commandError bank =>
    simp only [exec, execCommandError] at hexec
    split at hexec
    · cases hexec; exact hidle
    · split at hexec
      · cases hexec; exact hidle
      · cases hexec; exact (s.follows_deliver _ _).run
  | channelFailureSignal target channel =>
    simp only [exec, execChannelFailureSignal] at hexec
    split at hexec
    · cases hexec
      exact (State.follows_signal (s.setPool (s.pool.setSignals (s.pool.signals.erase (target, channel)))) target
        channel).run
    · cases hexec; exact hidle
  | outcomeReport bank =>
    simp only [exec, execOutcomeReport] at hexec
    split at hexec
    · cases hexec; exact hidle
    · cases hexec; exact hpool _
  | migrationStart => cases hexec; exact hpool _
  | scrubTimerExpiry => cases hexec; exact hpool _
  | formatTurn => cases hexec; exact hpool _
  | queueCreate =>
    simp only [exec, execQueueCreate] at hexec
    split at hexec
    case h_1 hconfig => cases hexec; exact (HostSide.follows_queueCreate (by rw [hconfig]; nofun) _ _ _ _ _ _ _).run
    case h_2 => cases hexec; exact hidle
  | queueDelete =>
    simp only [exec, execQueueDelete] at hexec
    split at hexec
    case h_1 hconfig => cases hexec; exact (HostSide.follows_queueDelete (by rw [hconfig]; nofun) _ _ _ _).run
    case h_2 => cases hexec; exact hidle
  | eventQueueSet =>
    simp only [exec, execEventQueueSet] at hexec
    split at hexec
    case h_1 id size base vector intEn hconfig =>
      have hbusy : s.host.config ≠ .idle := by rw [hconfig]; nofun
      split at hexec
      · cases hexec
        exact ((s.host.follows_setEventRing size base vector intEn).trans
          (HostSide.follows_completeCommand (by rw [HostSide.setEventRing_config]; exact hbusy) _ _ _)).run
      · cases hexec; exact (HostSide.follows_completeCommand hbusy _ _ _).run
    case h_2 => cases hexec; exact hidle
  | setParameters =>
    simp only [exec, execSetParameters] at hexec
    split at hexec
    case h_1 id interval threshold enables hconfig =>
      have hbusy : s.host.config ≠ .idle := by rw [hconfig]; nofun
      split at hexec
      · cases hexec
        exact ((s.follows_takeParameters interval threshold enables).trans
          (HostSide.follows_completeCommand (h := (s.takeParameters interval threshold enables).host) hbusy _ _ _)).run
      · cases hexec; exact (HostSide.follows_completeCommand hbusy _ _ _).run
    case h_2 => cases hexec; exact hidle
  | poolFormat =>
    simp only [exec, execPoolFormat] at hexec
    split at hexec
    case h_1 id stride hconfig =>
      have hbusy : s.host.config ≠ .idle := by rw [hconfig]; nofun
      split at hexec
      case h_1 => cases hexec; exact (HostSide.follows_completeCommand hbusy _ _ _).run
      case h_2 st _ =>
        have hstill : (s.deliverEvents ((Work.start s.pool).beginFormat st)).host.config ≠ .idle := by
          rw [State.deliverEvents_host, HostSide.raiseAll_config]; exact hbusy
        have hdone := (s.follows_deliverEvents ((Work.start s.pool).beginFormat st)).trans
          (HostSide.follows_completeCommand hstill id .ok 0)
        rw [← Host.Outcome.next.inj hexec, State.setHost_host]
        exact hdone.run
    case h_2 => cases hexec; exact hidle
  | mapRead =>
    simp only [exec, execMapRead] at hexec
    split at hexec
    case h_1 hconfig => cases hexec; exact (HostSide.follows_writeOut (by rw [hconfig]; nofun) _ _ _ _).run
    case h_2 => cases hexec; exact hidle
  | healthRead =>
    simp only [exec, execHealthRead] at hexec
    split at hexec
    case h_1 hconfig => cases hexec; exact (HostSide.follows_writeOut (by rw [hconfig]; nofun) _ _ _ _).run
    case h_2 => cases hexec; exact hidle
  | mapLoad =>
    simp only [exec, execMapLoad] at hexec
    split at hexec
    case h_1 hconfig =>
      have hbusy : s.host.config ≠ .idle := by rw [hconfig]; nofun
      split at hexec
      · cases hexec; exact (HostSide.follows_completeCommand hbusy _ _ _).run
      · split at hexec
        · cases hexec; exact (HostSide.follows_completeCommand hbusy _ _ _).run
        · cases hexec; exact (State.follows_beginLoad hbusy _ _ _).run
    case h_2 => cases hexec; exact hidle
  | healthClear =>
    simp only [exec, execHealthClear] at hexec
    split at hexec
    case h_1 hconfig => cases hexec; exact (HostSide.follows_completeCommand (by rw [hconfig]; nofun) _ _ _).run
    case h_2 => cases hexec; exact hidle
  | migrateRow =>
    simp only [exec, execMigrateRow] at hexec
    split at hexec
    case h_1 hconfig => cases hexec; exact (HostSide.follows_completeCommand (by rw [hconfig]; nofun) _ _ _).run
    case h_2 => cases hexec; exact hidle
  | statusRead =>
    simp only [exec, execStatusRead] at hexec
    split at hexec
    case h_1 id host hconfig =>
      have hbusy : s.host.config ≠ .idle := by rw [hconfig]; nofun
      unfold HostSide.postWrite at hexec
      by_cases hin : s.host.port.inWindow host (statusBlock s).length = true
      · simp only [hin, if_true] at hexec
        cases hexec
        exact ((HostSide.Follow.send s.host (s.host.out ++ [.write host (statusBlock s)])).one.trans
          (HostSide.follows_completeCommand (h := s.host.setOut (s.host.out ++ [.write host (statusBlock s)])) hbusy
            id .ok 0)).run
      · simp only [hin] at hexec
        cases hexec; exact (HostSide.follows_completeCommand hbusy _ _ _).run
    case h_2 => cases hexec; exact hidle

theorem exec_keeps_creditSafe {c : Instr} {s t : State} (hsafe : s.host.creditSafe) (hexec : exec c s = .next t) :
    t.host.creditSafe := by
  obtain ⟨hcredit, hfilled⟩ := s.host.creditSafe_iff.mp hsafe
  have hrun := exec_run hexec
  exact t.host.creditSafe_iff.mpr ⟨HostSide.Acts.credit hrun.acts hcredit, hrun.filled hcredit hfilled⟩

/-- What every act keeps, every command keeps. -/
theorem exec_keeps {P : HostSide → Prop} (hact : ∀ {h k : HostSide}, h.Act k → P h → P k) {c : Instr} {s t : State}
    (hexec : exec c s = .next t) (hs : P s.host) : P t.host := HostSide.Acts.keep hact (exec_run hexec).acts hs

/-- What every command keeps of the host side, every step keeps. -/
theorem step_keeps {P : HostSide → Prop} (hexec : ∀ {c : Instr} {s t : State}, exec c s = .next t → P s.host → P t.host)
    {s t : State} (hstep : step s = .next t) (hs : P s.host) : P t.host := by
  unfold step at hstep
  split at hstep
  · cases hstep; exact hs
  · exact hexec hstep hs

end Sys2Proof.Machine

open Sys2Proof Sys2Proof.Machine

/-- Settles O58: every command is a run of acts, and every act keeps each of the bounds. -/
theorem stepKeepsHostCollections : Obligations.StepKeepsHostCollections := fun _ _ hstep =>
  ⟨step_keeps (P := fun h => h.events.safe) (exec_keeps HostSide.Act.events_safe) hstep,
    step_keeps (P := fun h => h.port.placesSafe) (exec_keeps HostSide.Act.placesSafe) hstep,
    step_keeps (P := fun h => h.tracker.safe) (exec_keeps HostSide.Act.tracker_safe) hstep,
    step_keeps (P := fun h => h.creditSafe) (fun hexec hsafe => exec_keeps_creditSafe hsafe hexec) hstep⟩

end

section
/-! PROOF. Credit (R154): kept by every command, and its first rule by a fetch start and a head write alone. -/

namespace Sys2Proof.Machine

/-- On every ACTIVE completion ring unconsumed and reserved records stay within the size (R154). -/
def HostSide.withinSize (h : HostSide) : Prop :=
  ∀ n, (h.cq n).state = .active → (h.cq n).unconsumed + (h.cq n).reserved ≤ (h.cq n).size

theorem HostSide.withinSize_of_cq {h k : HostSide} (hcq : ∀ n, k.cq n = h.cq n) (hw : h.withinSize) : k.withinSize :=
  fun n hn => by rw [hcq] at hn ⊢; exact hw n hn

/-- Asking for reads changes the read places and what was sent, and nothing else. -/
theorem HostSide.askReads_eq (reads : List (Owner × Nat × Nat)) (h : HostSide) :
    ∃ o p, (h.askReads reads).1 = (h.setOut o).setPort p := by
  induction reads generalizing h with
  | nil => exact ⟨h.out, h.port, rfl⟩
  | cons r rest ih =>
    unfold HostSide.askReads
    split
    · obtain ⟨o, p, e⟩ := ih (h.placeRead r.1 r.2.1 r.2.2)
      obtain ⟨o', p', e'⟩ := h.placeRead_eq r.1 r.2.1 r.2.2
      exact ⟨o, p, by rw [e, e']; rfl⟩
    · exact ⟨h.out, h.port, rfl⟩

theorem HostSide.reserveFetch_withinSize {h : HostSide} (hw : h.withinSize) {i : RingId} {n : Nat}
    (hn : n ≤ (h.cq (h.rq i).cq).freeCredit) : (h.reserveFetch i n).withinSize := by
  intro d hd
  rw [h.cq_reserveFetch] at hd ⊢
  split at hd
  case isTrue he =>
    have := hw _ hd
    rw [if_pos he]
    rw [Cq.freeCredit] at hn
    dsimp only; omega
  case isFalse he => rw [if_neg he]; exact hw d hd

theorem HostSide.cq_giveUpFetch (h : HostSide) (f : Fetch) (n : RingId) :
    (h.giveUpFetch f).cq n = if (h.rq f.ring).cq = n then
      { h.cq (h.rq f.ring).cq with reserved := (h.cq (h.rq f.ring).cq).reserved - f.recs.length } else h.cq n := by
  rw [← h.cq_setCq]
  unfold HostSide.giveUpFetch
  dsimp only
  split <;> rfl

theorem HostSide.giveUpFetch_config (h : HostSide) (f : Fetch) : (h.giveUpFetch f).config = h.config := by
  unfold HostSide.giveUpFetch
  dsimp only
  split <;> rfl

theorem HostSide.giveUpFetch_withinSize {h : HostSide} (hw : h.withinSize) (f : Fetch) : (h.giveUpFetch f).withinSize := by
  intro d hd
  rw [h.cq_giveUpFetch] at hd ⊢
  split at hd
  case isTrue he =>
    have := hw _ hd
    rw [if_pos he]
    dsimp only; omega
  case isFalse he => rw [if_neg he]; exact hw d hd

/-- A failed fetch is given up, told of unless its ring was FAULTED, and what follows from it is done (R159). -/
theorem HostSide.failFetch_of_fetch {h : HostSide} {f : Fetch} (hf : h.engine.fetch = some f) :
    h.failFetch = HostSide.settle (if (h.rq f.ring).state = .faulted then (h.abandonReads Owner.isFetch).giveUpFetch f
      else ((h.abandonReads Owner.isFetch).giveUpFetch f).raise (.queueFault .request f.ring .fetchFailed)) := by
  rw [HostSide.failFetch, hf]
  rfl

theorem HostSide.failFetch_withinSize {h : HostSide} (hw : h.withinSize) (q : h.quiescent) : h.failFetch.withinSize := by
  cases hf : h.engine.fetch with
  | none => rw [HostSide.failFetch, hf]; exact hw
  | some f =>
    have hgiven : ((h.abandonReads Owner.isFetch).giveUpFetch f).withinSize :=
      HostSide.giveUpFetch_withinSize (h := h.abandonReads Owner.isFetch) hw f
    have hslots := (h.abandonReads Owner.isFetch).giveUpFetch_slots f
    have hconfig := (h.abandonReads Owner.isFetch).giveUpFetch_config f
    rw [HostSide.failFetch_of_fetch hf]
    split
    · rw [HostSide.settle_quiescent (HostSide.quiescent_of_eq q hslots hconfig)]
      exact hgiven
    · rw [HostSide.settle_quiescent (HostSide.quiescent_of_eq q (by rw [HostSide.raise_tracker]; exact hslots)
        (by rw [HostSide.raise_config]; exact hconfig))]
      exact HostSide.withinSize_of_cq (HostSide.cq_raise _ _) hgiven

theorem HostSide.fetchCount_le_freeCredit (h : HostSide) (i : RingId) :
    h.fetchCount i ≤ (h.cq (h.rq i).cq).freeCredit := by
  unfold HostSide.fetchCount
  dsimp only
  split
  · exact Nat.le_trans (Nat.min_le_right _ _) (Nat.min_le_right _ _)
  · exact Nat.le_trans (Nat.min_le_right _ _) (Nat.le_trans (Nat.min_le_right _ _) (Nat.min_le_left _ _))

theorem HostSide.startFetch_withinSize {h : HostSide} (hw : h.withinSize) (q : h.quiescent) : h.startFetch.withinSize := by
  unfold HostSide.startFetch
  split
  case h_1 i _ _ =>
    dsimp only
    have hreserved := HostSide.reserveFetch_withinSize hw (h.fetchCount_le_freeCredit i)
    have hslots := h.reserveFetch_slots i (h.fetchCount i)
    have hconfig := h.reserveFetch_config i (h.fetchCount i)
    obtain ⟨o, p, hasked⟩ := HostSide.askReads_eq ((h.rq i).fetchReads (h.fetchCount i))
      (h.reserveFetch i (h.fetchCount i))
    have hl : ∀ l, l = ((h.reserveFetch i (h.fetchCount i)).setOut o).setPort p → l.withinSize ∧ l.quiescent := by
      rintro l rfl
      exact ⟨hreserved, HostSide.quiescent_of_eq q hslots hconfig⟩
    split
    case h_1 l he => rw [he] at hasked; exact (hl l hasked).1
    case h_2 l he => rw [he] at hasked; exact HostSide.failFetch_withinSize (hl l hasked).1 (hl l hasked).2
  case h_2 => exact hw
  case h_3 => exact hw

theorem HostSide.writeCqHead_withinSize {h : HostSide} (hw : h.withinSize) (n : RingId) (v : BitVec 32) :
    (h.writeCqHead n v).withinSize := by
  unfold HostSide.writeCqHead
  dsimp only
  split
  case isTrue hactive =>
    have hn := hw n hactive
    split
    · intro d hd
      rw [HostSide.cq_setCq] at hd ⊢
      split
      · dsimp only; omega
      case isFalse he => rw [if_neg he] at hd; exact hw d hd
    · refine HostSide.withinSize_of_cq (HostSide.cq_raise _ _) fun d hd => ?_
      rw [HostSide.cq_setCq] at hd ⊢
      split at hd
      · nomatch hd
      case isFalse he => rw [if_neg he]; exact hw d hd
  case isFalse => exact hw

end Sys2Proof.Machine

open Sys2Proof Sys2Proof.Machine

/-- Settles O18: each act of the host side keeps the rule; the reservations of a fetch start are within the free credit. -/
theorem creditNeverExceeded : Obligations.CreditNeverExceeded := by
  refine ⟨fun _ _ _ hsafe hexec => exec_keeps_creditSafe hsafe hexec, fun s t c hw q hc hexec => ?_⟩
  rcases hc with rfl | ⟨n, v, rfl⟩
  · cases hexec
    exact HostSide.startFetch_withinSize hw q
  · cases hexec
    change HostSide.withinSize (s.host.onLink fun h => h.writeCqHead n v)
    unfold HostSide.onLink
    split
    · exact HostSide.writeCqHead_withinSize hw n v
    · exact hw

end

section
/-! PROOF. The queue of commands, the power-on values and the port resets. -/

namespace Sys2Proof.Machine

/-! ## The queue of waiting commands -/

theorem State.admitHeld_pending (s : State) (f : BankNo → Bool) : (s.admitHeld f).pending = s.pending :=
  State.admitNext_pending f _ s

theorem State.completeOp_pending (s : State) (b : BankNo) (eff : PoolSide → InProgress → Option Effect) :
    (s.completeOp b eff).pending = s.pending := by
  unfold State.completeOp
  split
  · rfl
  · split
    · rfl
    · exact State.deliver_pending _ _ _

theorem State.issue_pending (s : State) (n : SlotNo) : (s.issue n).pending = s.pending := by
  unfold State.issue
  split
  · rfl
  · split
    · split
      · rfl
      · split
        · exact State.placeOp_pending _ _ _
        · rfl
    · rfl

theorem State.signal_pending (s : State) (target : SignalTarget) (c : ChanNo) :
    (s.signal target c).pending = s.pending := by
  cases target with
  | poolControl => rfl
  | migrationController => rfl
  | healthMonitor => rfl
  | tracker => exact s.admitHeld_pending _

theorem State.loadMap_pending (s : State) (id : BitVec 16) (es : List MapEntry) :
    (s.loadMap id es).pending = s.pending := by
  unfold State.loadMap
  split <;> rfl

theorem State.imageData_pending (s : State) (off : Nat) (bytes : List Byte) :
    (s.imageData off bytes).pending = s.pending := by
  unfold State.imageData
  split
  · dsimp only
    split
    · rfl
    · exact s.loadMap_pending _ _
  all_goals rfl

theorem State.readDone_pending (s : State) (o : Owner) (bytes : List Byte) : (s.readDone o bytes).pending = s.pending := by
  cases o with
  | fetch first => rfl
  | slotList n off => rfl
  | slotData n g off => rfl
  | image off => exact s.imageData_pending off bytes

theorem State.answerData_pending (s : State) (r : SentRead) (off : Nat) (bytes : List Byte) :
    (s.answerData r off bytes).pending = s.pending := by
  unfold State.answerData
  dsimp only
  split
  · rw [State.setHost_pending]
    split
    · rfl
    · exact State.readDone_pending _ _ _
  · rfl

theorem State.beginLoad_pending (s : State) (id : BitVec 16) (n host : Nat) : (s.beginLoad id n host).pending = s.pending := by
  unfold State.beginLoad
  split
  · exact s.loadMap_pending id []
  · split <;> rfl

/-- An outcome that is a next state with the queue as it was. -/
def Answers (s : State) (x : Host.Outcome State Fault Refusal) : Prop := ∃ t, x = .next t ∧ t.pending = s.pending

theorem Answers.next {s t : State} (h : t.pending = s.pending) : Answers s (.next t) := ⟨t, rfl, h⟩

/-- Every command answers a next state and leaves the queue. -/
theorem exec_answers (c : Instr) (s : State) : Answers s (exec c s) := by
  cases c with
  | powerOnReset => exact .next rfl
  | initialisationEnd => exact .next rfl
  | enableSet => exact .next rfl
  | enableClear => exact .next rfl
  | functionLevelReset => exact .next rfl
  | linkDown => exact .next rfl
  | linkUp => simp only [exec, execLinkUp]; split <;> exact .next rfl
  | registerWrite offset size value => exact .next rfl
  | rqTailWrite ring value => exact .next rfl
  | cqHeadWrite ring value => exact .next rfl
  | eqHeadWrite value => exact .next rfl
  | hostReadAnswer read part =>
    simp only [exec, execHostReadAnswer]
    split
    · exact .next rfl
    · exact .next rfl
    · exact .next (s.answerData_pending _ _ _)
  | hostReadTimeout read => simp only [exec, execHostReadTimeout]; split <;> exact .next rfl
  | fetchStart => exact .next rfl
  | issueGranuleOperation slot => exact .next (s.issue_pending slot)
  | readOperation bank outcome source => exact .next (s.completeOp_pending bank _)
  | checkOperation bank outcome source => exact .next (s.completeOp_pending bank _)
  | writeOperation bank => exact .next (s.completeOp_pending bank _)
  | mergeOperation bank outcome source => exact .next (s.completeOp_pending bank _)
  | markOperation bank => exact .next (s.completeOp_pending bank _)
  | stepOperation bank source verify =>
    simp only [exec, execStepOperation]
    split
    · exact .next rfl
    · split
      case h_1 => exact .next (s.deliver_pending _ _)
      all_goals exact .next rfl
  | commandError bank =>
    simp only [exec, execCommandError]
    split
    · exact .next rfl
    · split
      · exact .next rfl
      · exact .next (s.deliver_pending _ _)
  | channelFailureSignal target channel =>
    simp only [exec, execChannelFailureSignal]
    split
    · exact .next (State.signal_pending _ target channel)
    · exact .next rfl
  | outcomeReport bank => simp only [exec, execOutcomeReport]; split <;> exact .next rfl
  | migrationStart => exact .next rfl
  | scrubTimerExpiry => exact .next rfl
  | formatTurn => exact .next rfl
  | queueCreate => simp only [exec, execQueueCreate]; split <;> exact .next rfl
  | queueDelete => simp only [exec, execQueueDelete]; split <;> exact .next rfl
  | eventQueueSet =>
    simp only [exec, execEventQueueSet]
    split
    · split <;> exact .next rfl
    · exact .next rfl
  | setParameters =>
    simp only [exec, execSetParameters]
    split
    · split <;> exact .next rfl
    · exact .next rfl
  | poolFormat =>
    simp only [exec, execPoolFormat]
    split
    · split
      · exact .next rfl
      · exact .next (by rw [State.setHost_pending, State.deliverEvents_pending])
    · exact .next rfl
  | mapRead => simp only [exec, execMapRead]; split <;> exact .next rfl
  | mapLoad =>
    simp only [exec, execMapLoad]
    split
    · split
      · exact .next rfl
      · split
        · exact .next rfl
        · exact .next (s.beginLoad_pending _ _ _)
    · exact .next rfl
  | healthRead => simp only [exec, execHealthRead]; split <;> exact .next rfl
  | healthClear => simp only [exec, execHealthClear]; split <;> exact .next rfl
  | migrateRow => simp only [exec, execMigrateRow]; split <;> exact .next rfl
  | statusRead =>
    simp only [exec, execStatusRead]
    split
    · split <;> exact .next rfl
    · exact .next rfl

/-! ## Power-on values -/

theorem PoolSide.bank_reset (b : BankNo) : PoolSide.reset.bank b = Bank.reset := by
  simp [PoolSide.bank, PoolSide.reset]

theorem PoolSide.spare_reset (b : BankNo) (i : SpareNo) : PoolSide.reset.spare b i = .free := by
  simp [PoolSide.spare, PoolSide.reset]

theorem PoolSide.migrationSlot_reset (k : Fin 4) : PoolSide.reset.migration.slots[k] = none := by
  simp [PoolSide.reset]

theorem HostSide.reset_credit : HostSide.reset.Credit none :=
  .of_absent (fun n => (QueueEngine.reset_rings n).1) (fun n => (QueueEngine.reset_rings n).2) rfl rfl rfl rfl

theorem State.reset_safe : State.reset.Safe where
  events := ⟨Nat.zero_le _, List.nodup_nil, nofun⟩
  places := ⟨Nat.zero_le _, fun h => absurd rfl h⟩
  slots := List.nodup_nil
  credit := HostSide.reset.creditSafe_iff.mpr ⟨HostSide.reset_credit, nofun⟩
  health := ⟨Nat.zero_le _, List.nodup_nil, nofun, by decide, by decide⟩
  migration := by
    refine ⟨Nat.zero_le _, List.nodup_nil, fun i x hx => ?_, fun i j x hx => ?_⟩
    · exact absurd (PoolSide.migrationSlot_reset i ▸ hx) nofun
    · exact absurd (PoolSide.migrationSlot_reset i ▸ hx) nofun
  queues := fun b => by
    rw [show State.reset.pool.bank b = Bank.reset from PoolSide.bank_reset b]
    exact ⟨Nat.zero_le _, Nat.zero_le _⟩
  memory := State.reset_mem_wf
  map := State.mapSafe_of_no_migration PoolSide.spare_reset PoolSide.migrationSlot_reset PoolSide.bank_reset rfl nofun

/-! ## Port resets -/

/-- What every port reset leaves of a host side, whatever its cause. -/
structure HostSide.PortReset (h k : HostSide) : Prop where
  enable : k.port.enable = false
  ready : k.port.ready = h.port.ready
  waiting : k.port.waiting = []
  sent : k.port.sent = h.port.sent.map fun r => { r with abandoned := true }
  engine : k.engine = QueueEngine.reset
  tracker : k.tracker = h.tracker.portReset
  config : k.config = .idle
  events : k.events = h.events
  out : k.out = h.out

theorem HostSide.portReset_waiting (h : HostSide) : h.portReset.port.waiting = [] := by
  simp [HostSide.portReset, HostSide.abandonReads]

theorem HostSide.portReset_effects (h : HostSide) : h.PortReset h.portReset :=
  ⟨rfl, rfl, h.portReset_waiting, rfl, rfl, rfl, rfl, rfl, rfl⟩

/-- A port reset by a function-level reset or by the link, which also sets whether the link is up. -/
theorem HostSide.resetLink_effects (h : HostSide) (up : Bool) :
    h.PortReset (h.functionReset.setPort { h.functionReset.port with linkUp := up }) :=
  ⟨rfl, rfl, h.portReset_waiting, rfl, rfl, rfl, rfl, rfl, rfl⟩

/-- ENABLE_CLEAR on a link that is up, with READY and ENABLE 1. -/
theorem exec_enableClear {s : State} (hup : s.host.port.linkUp = true) (hready : s.host.port.ready = true)
    (henable : s.host.port.enable = true) : exec .enableClear s = .next (s.setHost s.host.portReset) := by
  change Host.Outcome.next (s.setHost (s.host.onLink fun h => h.writeControl false)) = _
  rw [HostSide.onLink, if_pos hup, HostSide.writeControl, if_pos ⟨hready, by rw [henable]; nofun⟩, if_neg nofun]

theorem exec_linkUp_of_down {s : State} (hdown : s.host.port.linkUp = false) : exec .linkUp s
    = .next (s.setHost (s.host.functionReset.setPort { s.host.functionReset.port with linkUp := true })) := by
  change (if s.host.port.linkUp then _ else _) = _
  rw [hdown]; rfl

/-- What each of the other three causes does. -/
theorem exec_otherReset {s t : State} (hothers : exec .functionLevelReset s = .next t ∨ exec .linkDown s = .next t
      ∨ exec .linkUp s = .next t ∧ s.host.port.linkUp = false) :
    ∃ up, t = s.setHost (s.host.functionReset.setPort { s.host.functionReset.port with linkUp := up }) := by
  rcases hothers with hlevel | hdown | ⟨hup, hlink⟩
  · cases hlevel; exact ⟨s.host.functionReset.port.linkUp, rfl⟩
  · cases hdown; exact ⟨false, rfl⟩
  · rw [exec_linkUp_of_down hlink] at hup
    cases hup; exact ⟨true, rfl⟩

end Sys2Proof.Machine

open Sys2Proof Sys2Proof.Machine

/-- Settles O2. -/
theorem everyCommandAnswersNext : Obligations.EveryCommandAnswersNext := fun c s => exec_answers c s

/-- Settles O1. -/
theorem stepRunsFrontCommand : Obligations.StepRunsFrontCommand := by
  refine ⟨fun c rest s hpending => ?_, fun s hpending => ?_⟩
  · rw [step, hpending]
  · rw [step, hpending]

/-- Settles O5. -/
theorem powerOnValues : Obligations.PowerOnValues := by
  refine ⟨fun s => rfl, rfl, _, rfl, rfl, rfl, rfl, rfl, rfl, rfl, rfl, rfl, rfl, rfl, fun n => ?rings, rfl, rfl, rfl, rfl,
    rfl, rfl, rfl, fun n => ?slots, rfl, rfl, rfl, rfl, rfl, rfl, fun b => ?banks, fun c => ?channels, fun b i => ?spares,
    rfl, fun i => ?migrations, rfl, rfl, rfl, rfl, rfl, rfl, rfl, rfl, rfl, rfl, rfl, fun k => rfl⟩
  case rings =>
    exact ⟨congrArg Rq.state (QueueEngine.reset_rings n).1, congrArg Cq.state (QueueEngine.reset_rings n).2⟩
  case slots => simp [State.reset, HostSide.reset, Tracker.reset]
  case banks =>
    have hbank := PoolSide.bank_reset b
    exact ⟨congrArg Bank.state hbank, congrArg Bank.cur hbank, congrArg Bank.waiting hbank, congrArg Bank.openRow hbank,
      congrArg Bank.record hbank, congrArg Bank.retry hbank⟩
  case channels => simp [State.reset, PoolSide.reset]
  case spares => exact PoolSide.spare_reset b i
  case migrations => exact PoolSide.migrationSlot_reset i

/-- Settles O6. -/
theorem powerOnResetFromAnyState : Obligations.PowerOnResetFromAnyState :=
  fun _ => ⟨_, rfl, rfl, rfl, rfl, rfl, rfl, rfl, rfl, rfl⟩

/-- Settles O60. -/
theorem resetIsSafe : Obligations.ResetIsSafe := State.reset_safe

/-- Settles O9. -/
theorem portResetRegisters : Obligations.PortResetRegisters := by
  refine fun s => ⟨fun hup hready henable => ?clear, fun c hc => ?others, fun hup => ?linkUp⟩
  case clear => exact ⟨_, exec_enableClear hup hready henable, rfl, rfl, rfl, rfl, rfl, rfl, hup⟩
  case others =>
    rcases hc with rfl | rfl | ⟨rfl, hdown⟩
    · exact ⟨_, rfl, rfl, rfl, rfl, rfl, rfl, rfl, fun _ => rfl, nofun, nofun⟩
    · exact ⟨_, rfl, rfl, rfl, rfl, rfl, rfl, rfl, nofun, fun _ => rfl, nofun⟩
    · exact ⟨_, exec_linkUp_of_down hdown, rfl, rfl, rfl, rfl, rfl, rfl, nofun, nofun, fun _ => rfl⟩
  case linkUp => exact if_pos hup

/-- Settles O8. -/
theorem portResetEffects : Obligations.PortResetEffects := by
  intro s t clear others hcause
  have hreset : s.host.PortReset t.host ∧ t.pool = s.pool := by
    rcases hcause with ⟨hexec, hup, hready, henable⟩ | hothers
    · rw [exec_enableClear hup hready henable] at hexec
      cases hexec
      exact ⟨s.host.portReset_effects, rfl⟩
    · obtain ⟨up, rfl⟩ := exec_otherReset hothers
      exact ⟨s.host.resetLink_effects up, rfl⟩
  obtain ⟨⟨henable, hready, hwaiting, hsent, hengine, htracker, hconfig, hevents, hout⟩, hpool⟩ := hreset
  refine ⟨henable, hready, hwaiting, hsent, fun n => ?_, ?_, ?_, ?_, ?_, ?_, ?_, ?_, ?_, hconfig, hevents, hout, hpool,
    fun hclear => ?_, fun hothers => ?_⟩
  · rw [HostSide.rq, HostSide.cq, hengine]; exact QueueEngine.reset_rings n
  · rw [hengine]; rfl
  · rw [hengine]; rfl
  · rw [hengine]; rfl
  · rw [htracker]; rfl
  · rw [htracker]; rfl
  · rw [htracker]; rfl
  · rw [htracker]; rfl
  · rw [htracker]; rfl
  · obtain ⟨hexec, hup, hready, henable⟩ := hclear
    rw [exec_enableClear hup hready henable] at hexec
    cases hexec
    exact ⟨rfl, rfl, rfl, rfl, rfl, rfl⟩
  · obtain ⟨up, rfl⟩ := exec_otherReset hothers
    exact ⟨rfl, rfl, rfl, rfl, rfl, rfl⟩

/-- Settles O23. -/
theorem intakeChecks : Obligations.IntakeChecks := by
  intro q ps t ring notReady badRange overlap badList duplicate
  have hready : (!ps.serving) = true ↔ notReady := by cases ps <;> simp [notReady, PoolState.serving]
  have hrange : q.rangeBad = true ↔ badRange := by
    simp only [DataReq.rangeBad, badRange, Bool.or_eq_true, Bool.and_eq_true, decide_eq_true_eq, beq_iff_eq, or_assoc]
  have hoverlap : ¬badRange → (q.overlaps = true ↔ overlap) := fun hr => by
    have hlen : 8 ≤ q.len := by by_contra hlt; exact hr (.inl (by omega))
    simp only [DataReq.overlaps, overlap, Bool.and_eq_true, decide_eq_true_eq, beq_iff_eq, and_assoc]
    refine and_congr_right fun _ => ⟨fun ⟨hab, hba⟩ => ⟨max q.a q.b, by omega⟩, fun ⟨x, hx⟩ => by omega⟩
  have hlist : q.listBad = true ↔ badList := by
    simp [DataReq.listBad, DataReq.needsList, badList, and_assoc]
  have hduplicate : t.duplicate ring q.id = true ↔ duplicate := by
    simp [Tracker.duplicate, duplicate]
  rw [DataReq.refusal?]
  refine ⟨fun h1 => ?_, fun h1 h2 => ?_, fun h1 h2 h3 => ?_, fun h1 h2 h3 h4 => ?_, fun h1 h2 h3 h4 h5 => ?_,
    fun h1 h2 h3 h4 h5 => ?_⟩
  · rw [if_pos (hready.mpr h1)]
  · rw [if_neg (mt hready.mp h1), if_pos (hrange.mpr h2)]
  · rw [if_neg (mt hready.mp h1), if_neg (mt hrange.mp h2), if_pos ((hoverlap h2).mpr h3)]
  · rw [if_neg (mt hready.mp h1), if_neg (mt hrange.mp h2), if_neg (mt (hoverlap h2).mp h3), if_pos (hlist.mpr h4)]
  · rw [if_neg (mt hready.mp h1), if_neg (mt hrange.mp h2), if_neg (mt (hoverlap h2).mp h3), if_neg (mt hlist.mp h4),
      if_pos (hduplicate.mpr h5)]
  · rw [if_neg (mt hready.mp h1), if_neg (mt hrange.mp h2), if_neg (mt (hoverlap h2).mp h3), if_neg (mt hlist.mp h4),
      if_neg (mt hduplicate.mp h5)]

/-- Settles O31. -/
theorem issueHeld : Obligations.IssueHeld := by
  intro s n x hx
  refine ⟨fun o hstate hheld hop hactive hfull => ?held, fun hno => ?busy⟩
  case held =>
    have hadmits : s.pool.admits o.bank = false := by
      have hroom : (s.pool.bank o.bank).hasGeneral = false := decide_eq_false (Nat.not_lt.mpr hfull)
      rw [PoolSide.admits, hroom, PoolSide.bankFailed, hactive]
      rfl
    change Host.Outcome.next (s.issue n) = _
    simp only [State.issue, hx, hstate, hheld, and_self, if_true, hop, hadmits, Bool.false_eq_true, if_false]
  case busy =>
    change Host.Outcome.next (s.issue n) = _
    have hnot : ¬(x.state = .issuing ∧ x.held = none) := fun ⟨hstate, hheld⟩ => hno.elim (· hstate) (· hheld)
    simp only [State.issue, hx, hnot, if_false]

end

section
/-! PROOF. Writes and reads of the configuration registers (R195, R203). -/

namespace Sys2Proof.Machine

/-- The 64-bit configuration register at offset 8 × `i`, `i` from 2 to 6 (12.10). -/
def HostPort.register (p : HostPort) : Nat → BitVec 64
  | 2 => p.windowLow
  | 3 => p.windowHigh
  | 4 => p.rqBase
  | 5 => p.cqBase
  | _ => p.sizes

/-- The named bits of configuration register `i` (12.10). -/
def registerMask (i : Nat) : BitVec 64 := if i = 6 then sizesMask else BitVec.allOnes 64

theorem and_registerMask {i : Nat} (hi : i ≠ 6) (x : BitVec 64) : x &&& registerMask i = x := by
  rw [registerMask, if_neg hi, BitVec.and_allOnes]

theorem registerMask_six : registerMask 6 = sizesMask := rfl

/-- What the port holds beside the configuration registers, left by a write of one. -/
structure HostPort.SameBeside (p q : HostPort) : Prop where
  ready : q.ready = p.ready
  enable : q.enable = p.enable
  configError : q.configError = p.configError
  linkUp : q.linkUp = p.linkUp
  sent : q.sent = p.sent
  waiting : q.waiting = p.waiting
  nextRead : q.nextRead = p.nextRead

theorem HostPort.SameBeside.trans {p q r : HostPort} (a : p.SameBeside q) (b : q.SameBeside r) : p.SameBeside r :=
  ⟨b.ready.trans a.ready, b.enable.trans a.enable, b.configError.trans a.configError, b.linkUp.trans a.linkUp,
    b.sent.trans a.sent, b.waiting.trans a.waiting, b.nextRead.trans a.nextRead⟩

theorem HostPort.writeConfig_beside (p : HostPort) (off : Nat) (v : BitVec 32) : p.SameBeside (p.writeConfig off v) := by
  unfold HostPort.writeConfig
  dsimp only
  split
  · exact ⟨rfl, rfl, rfl, rfl, rfl, rfl, rfl⟩
  · split
    · exact ⟨rfl, rfl, rfl, rfl, rfl, rfl, rfl⟩
    · split
      · exact ⟨rfl, rfl, rfl, rfl, rfl, rfl, rfl⟩
      · split <;> exact ⟨rfl, rfl, rfl, rfl, rfl, rfl, rfl⟩

/-- The register that a 4-byte write names takes the half, of CONFIG SIZES the named bits; the others stay. -/
theorem HostPort.writeConfig_register (p : HostPort) {off i : Nat} (hlow : 0x10 ≤ off) (hhigh : off < 0x38) (hi : 2 ≤ i)
    (hi' : i ≤ 6) (v : BitVec 32) : (p.writeConfig off v).register i =
      if off / 8 = i then setHalf (p.register i) (decide (off % 8 = 4)) v &&& registerMask i else p.register i := by
  have hi : i = 2 ∨ i = 3 ∨ i = 4 ∨ i = 5 ∨ i = 6 := by omega
  unfold HostPort.writeConfig
  dsimp only
  split
  case isTrue h =>
    have : off / 8 = 2 := by omega
    rw [this]
    rcases hi with rfl | rfl | rfl | rfl | rfl <;> simp [HostPort.register, and_registerMask]
  case isFalse =>
    split
    case isTrue =>
      have : off / 8 = 3 := by omega
      rw [this]
      rcases hi with rfl | rfl | rfl | rfl | rfl <;> simp [HostPort.register, and_registerMask]
    case isFalse =>
      split
      case isTrue =>
        have : off / 8 = 4 := by omega
        rw [this]
        rcases hi with rfl | rfl | rfl | rfl | rfl <;> simp [HostPort.register, and_registerMask]
      case isFalse =>
        split
        case isTrue =>
          have : off / 8 = 5 := by omega
          rw [this]
          rcases hi with rfl | rfl | rfl | rfl | rfl <;> simp [HostPort.register, and_registerMask]
        case isFalse =>
          have : off / 8 = 6 := by omega
          rw [this]
          rcases hi with rfl | rfl | rfl | rfl | rfl <;> simp [HostPort.register, registerMask_six]

/-- A 4-byte read of a configuration register finds the half at its offset. -/
theorem State.readWord_config (s : State) {off : Nat} (hlow : 0x10 ≤ off) (hhigh : off < 0x38) :
    s.readWord off = half (s.host.port.register (off / 8)) (decide (off % 8 = 4)) := by
  have h0 : ¬off = 0 := by omega
  have h4 : ¬off = 4 := by omega
  have h8 : ¬off = 8 := by omega
  have h10 : ¬off < 0x10 := by omega
  unfold State.readWord
  dsimp only
  rw [if_neg h0, if_neg h4, if_neg h8, if_neg h10]
  split
  case isTrue => rw [show off / 8 = 2 by omega]; rfl
  case isFalse =>
    split
    case isTrue => rw [show off / 8 = 3 by omega]; rfl
    case isFalse =>
      split
      case isTrue => rw [show off / 8 = 4 by omega]; rfl
      case isFalse =>
        split
        case isTrue => rw [show off / 8 = 5 by omega]; rfl
        case isFalse => rw [show off / 8 = 6 by omega]; rfl

/-- No read outside the configuration registers finds a change of them. -/
theorem State.readWord_setPort (s : State) {p : HostPort} (hp : s.host.port.SameBeside p) {off : Nat}
    (hoff : off < 0x10 ∨ 0x38 ≤ off) : (s.setHost (s.host.setPort p)).readWord off = s.readWord off := by
  have hstatus : statusValue (s.setHost (s.host.setPort p)) = statusValue s := by
    simp [statusValue, hp.ready, hp.enable, hp.configError]
  have hcontrol : BitVec.ofNat 32 (bit p.enable) = BitVec.ofNat 32 (bit s.host.port.enable) := by rw [hp.enable]
  unfold State.readWord
  dsimp only
  rw [hstatus]
  by_cases h0 : off = 0
  · rw [if_pos h0, if_pos h0]
  by_cases h4 : off = 4
  · rw [if_neg h0, if_neg h0, if_pos h4, if_pos h4]
  by_cases h8 : off = 8
  · rw [if_neg h0, if_neg h0, if_neg h4, if_neg h4, if_pos h8, if_pos h8]; exact hcontrol
  by_cases h10 : off < 0x10
  · rw [if_neg h0, if_neg h0, if_neg h4, if_neg h4, if_neg h8, if_neg h8, if_pos h10, if_pos h10]
  have hfrom : ∀ n ≤ 0x38, 0x10 ≤ n → ¬off < n := by omega
  rw [if_neg h0, if_neg h0, if_neg h4, if_neg h4, if_neg h8, if_neg h8, if_neg h10, if_neg h10]
  rw [if_neg (hfrom 0x18 (by decide) (by decide)), if_neg (hfrom 0x18 (by decide) (by decide)),
    if_neg (hfrom 0x20 (by decide) (by decide)), if_neg (hfrom 0x20 (by decide) (by decide)),
    if_neg (hfrom 0x28 (by decide) (by decide)), if_neg (hfrom 0x28 (by decide) (by decide)),
    if_neg (hfrom 0x30 (by decide) (by decide)), if_neg (hfrom 0x30 (by decide) (by decide)),
    if_neg (hfrom 0x38 (by decide) (by decide)), if_neg (hfrom 0x38 (by decide) (by decide))]
  rfl

/-! ## Halves -/

theorem half_append_half (r : BitVec 64) : half r true ++ half r false = r := by
  refine BitVec.eq_of_getLsbD_eq fun i hi => ?_
  simp only [half, if_true, Bool.false_eq_true, if_false, BitVec.getLsbD_append, BitVec.getLsbD_extractLsb']
  by_cases hlow : i < 32
  · simp [hlow]
  · have hhigh : i - 32 < 32 := by omega
    simp [hlow, hhigh, show 32 + (i - 32) = i by omega]

theorem half_and_low (v : BitVec 64) : half (v &&& 0xFFFFFFFF) false = half v false := by
  refine BitVec.eq_of_getLsbD_eq fun i hi => ?_
  have hbit : (0xFFFFFFFF : BitVec 64).getLsbD i = true := by
    rw [show (0xFFFFFFFF : BitVec 64) = (BitVec.allOnes 32).setWidth 64 from rfl, BitVec.getLsbD_setWidth,
      BitVec.getLsbD_allOnes]
    simp only [Bool.and_eq_true, decide_eq_true_eq]; omega
  simp only [half, Bool.false_eq_true, if_false, BitVec.getLsbD_extractLsb', BitVec.getLsbD_and, Nat.zero_add, hbit,
    Bool.and_true]

theorem half_shift (v : BitVec 64) : half (v >>> 32) false = half v true := by
  refine BitVec.eq_of_getLsbD_eq fun i hi => ?_
  simp [half]

/-- The low half and then the high half of a register written. -/
theorem setHalf_setHalf (r m v : BitVec 64) :
    setHalf (setHalf r false (half v false) &&& m) true (half v true) &&& m = v &&& m := by
  refine BitVec.eq_of_getLsbD_eq fun i hi => ?_
  simp only [setHalf, half, if_true, Bool.false_eq_true, if_false, BitVec.getLsbD_append, BitVec.getLsbD_extractLsb',
    BitVec.getLsbD_and]
  by_cases hlow : i < 32
  · cases hm : m.getLsbD i <;> simp [hlow, hm]
  · have hhigh : i - 32 < 32 := by omega
    simp [hlow, hhigh, show 32 + (i - 32) = i by omega]

/-! ## Writes of configuration registers through the link -/

/-- A 4-byte write of a configuration register while ENABLE is 0. -/
theorem HostSide.writeWord_config {h : HostSide} {off : Nat} (hlow : 0x10 ≤ off) (hhigh : off < 0x38)
    (hoff : h.port.enable = false) (v : BitVec 32) : h.writeWord off v = h.setPort (h.port.writeConfig off v) := by
  have h8 : ¬off = 8 := by omega
  rw [HostSide.writeWord, if_neg h8, if_pos ⟨hlow, hhigh⟩, hoff]
  rfl

theorem HostSide.writeWindow_four (h : HostSide) {off : Nat} (halign : off % 4 = 0) (hoff : off < 0x1000) (v : BitVec 64) :
    h.writeWindow off 4 v = h.writeWord off (half v false) := if_pos ⟨rfl, halign, hoff⟩

theorem HostSide.writeWindow_eight (h : HostSide) {off : Nat} (halign : off % 8 = 0) (hoff : off < 0x1000) (v : BitVec 64) :
    h.writeWindow off 8 v = (h.writeWord off (half v false)).writeWord (off + 4) (half v true) := by
  rw [HostSide.writeWindow, if_neg (by simp), if_pos ⟨rfl, halign, hoff⟩]

theorem exec_registerWrite {s : State} (hup : s.host.port.linkUp = true) (off size : Nat) (v : BitVec 64) :
    exec (.registerWrite off size v) s = .next (s.setHost (s.host.writeWindow off size v)) := by
  change Host.Outcome.next (s.setHost (s.host.onLink fun h => h.writeWindow off size v)) = _
  rw [HostSide.onLink, if_pos hup]

/-- Port `q` differs from `p` at most in configuration register `i`. -/
structure HostPort.SameBut (p q : HostPort) (i : Nat) : Prop where
  beside : p.SameBeside q
  register : ∀ j, 2 ≤ j → j ≤ 6 → j ≠ i → q.register j = p.register j

theorem HostPort.writeConfig_sameBut (p : HostPort) {off : Nat} (hlow : 0x10 ≤ off) (hhigh : off < 0x38) (v : BitVec 32) :
    p.SameBut (p.writeConfig off v) (off / 8) :=
  ⟨p.writeConfig_beside off v, fun j hj hj' hne => by
    rw [p.writeConfig_register hlow hhigh hj hj', if_neg (Ne.symm hne)]⟩

theorem HostPort.SameBut.trans {p q r : HostPort} {i : Nat} (a : p.SameBut q i) (b : q.SameBut r i) : p.SameBut r i :=
  ⟨a.beside.trans b.beside, fun j hj hj' hne => (b.register j hj hj' hne).trans (a.register j hj hj' hne)⟩

/-- An aligned 8-byte read outside the register changed finds what it found before. -/
theorem State.readWindow_sameBut (s : State) {p : HostPort} {i : Nat} (hp : s.host.port.SameBut p i) {o : Nat}
    (ho : o % 8 = 0) (hne : o / 8 ≠ i) : (s.setHost (s.host.setPort p)).readWindow o 8 = s.readWindow o 8 := by
  have hword : ∀ x, x / 8 = o / 8 → (s.setHost (s.host.setPort p)).readWord x = s.readWord x := fun x hx => by
    by_cases hconfig : 0x10 ≤ x ∧ x < 0x38
    · rw [State.readWord_config _ hconfig.1 hconfig.2, State.readWord_config _ hconfig.1 hconfig.2]
      exact congrArg (half · _) (hp.register (x / 8) (by omega) (by omega) (by omega))
    · exact s.readWord_setPort hp.beside (by omega)
  have height : ∀ t : State, t.readWindow o 8 = t.readWord (o + 4) ++ t.readWord o := fun t => by
    rw [State.readWindow, if_neg (by simp), if_pos ⟨rfl, ho⟩]
  rw [height, height, hword o rfl, hword (o + 4) (by omega)]

/-- An aligned 8-byte read of a configuration register. -/
theorem State.readWindow_register (s : State) {i : Nat} (hi : 2 ≤ i) (hi' : i ≤ 6) :
    s.readWindow (8 * i) 8 = s.host.port.register i := by
  rw [State.readWindow, if_neg (by simp), if_pos ⟨rfl, by omega⟩, s.readWord_config (off := 8 * i) (by omega) (by omega),
    s.readWord_config (off := 8 * i + 4) (by omega) (by omega)]
  have h1 : 8 * i / 8 = i := by omega
  have h2 : (8 * i + 4) / 8 = i := by omega
  have h3 : ¬8 * i % 8 = 4 := by omega
  have h4 : (8 * i + 4) % 8 = 4 := by omega
  rw [h1, h2, decide_eq_false h3, decide_eq_true h4]
  exact half_append_half _

/-- The port after the low half and then the high half of configuration register `i` have been written. -/
theorem HostPort.register_writeHalves (p : HostPort) {i : Nat} (hi : 2 ≤ i) (hi' : i ≤ 6) (v : BitVec 64) :
    ((p.writeConfig (8 * i) (half v false)).writeConfig (8 * i + 4) (half v true)).register i = v &&& registerMask i := by
  have h1 : 8 * i / 8 = i := by omega
  have h2 : (8 * i + 4) / 8 = i := by omega
  have h3 : ¬8 * i % 8 = 4 := by omega
  have h4 : (8 * i + 4) % 8 = 4 := by omega
  rw [HostPort.writeConfig_register _ (by omega) (by omega) hi hi', if_pos h2,
    HostPort.writeConfig_register _ (by omega) (by omega) hi hi', if_pos h1, decide_eq_false h3, decide_eq_true h4]
  exact setHalf_setHalf _ _ _

end Sys2Proof.Machine

open Sys2Proof Sys2Proof.Machine

/-- Settles O10. -/
theorem configurationRegisterWrites : Obligations.ConfigurationRegisterWrites := by
  intro s v off hoff hup henable held kept
  obtain ⟨i, hi, hi', rfl⟩ : ∃ i, 2 ≤ i ∧ i ≤ 6 ∧ off = 8 * i := by
    simp only [List.mem_cons, List.not_mem_nil, or_false] at hoff
    exact ⟨off / 8, by omega, by omega, by omega⟩
  have hheld : v &&& registerMask i = held := by
    simp only [held, registerMask]
    by_cases h6 : i = 6
    · rw [if_pos h6, if_pos (by omega)]; rfl
    · rw [if_neg h6, if_neg (by omega), BitVec.and_allOnes]
  have hkept : ∀ p, s.host.port.SameBut p i → kept (s.setHost (s.host.setPort p)) := fun p hp =>
    ⟨fun o ho hne => s.readWindow_sameBut hp ho (by omega), hp.beside.linkUp, hp.beside.sent, hp.beside.waiting,
      hp.beside.nextRead, rfl, rfl, rfl, rfl, rfl, rfl⟩
  have hfirst : s.host.port.SameBut (s.host.port.writeConfig (8 * i) (half v false)) i := by
    have := s.host.port.writeConfig_sameBut (off := 8 * i) (by omega) (by omega) (half v false)
    rwa [show 8 * i / 8 = i by omega] at this
  have hsecond : s.host.port.SameBut
      ((s.host.port.writeConfig (8 * i) (half v false)).writeConfig (8 * i + 4) (half v true)) i := by
    have := (s.host.port.writeConfig (8 * i) (half v false)).writeConfig_sameBut (off := 8 * i + 4) (by omega) (by omega)
      (half v true)
    rw [show (8 * i + 4) / 8 = i by omega] at this
    exact hfirst.trans this
  have hlow : s.host.writeWord (8 * i) (half v false)
      = s.host.setPort (s.host.port.writeConfig (8 * i) (half v false)) :=
    HostSide.writeWord_config (by omega) (by omega) henable _
  have hhigh : (s.host.setPort (s.host.port.writeConfig (8 * i) (half v false))).writeWord (8 * i + 4) (half v true)
      = s.host.setPort ((s.host.port.writeConfig (8 * i) (half v false)).writeConfig (8 * i + 4) (half v true)) :=
    HostSide.writeWord_config (by omega) (by omega) (hfirst.beside.enable.trans henable) _
  have hread : (s.setHost (s.host.setPort ((s.host.port.writeConfig (8 * i) (half v false)).writeConfig (8 * i + 4)
      (half v true)))).readWindow (8 * i) 8 = held := by
    rw [State.readWindow_register _ hi hi', ← hheld]
    exact s.host.port.register_writeHalves hi hi' v
  refine ⟨⟨_, ?_, hread, hkept _ hsecond⟩, s.setHost (s.host.setPort (s.host.port.writeConfig (8 * i) (half v false))),
    _, ?_, hkept _ hfirst, ?_, hread, hkept _ hsecond⟩
  · rw [exec_registerWrite hup, HostSide.writeWindow_eight _ (by omega) (by omega), hlow, hhigh]
  · rw [exec_registerWrite hup, HostSide.writeWindow_four _ (by omega) (by omega), half_and_low, hlow]
  · have hup' : (s.setHost (s.host.setPort (s.host.port.writeConfig (8 * i) (half v false)))).host.port.linkUp = true :=
      hfirst.beside.linkUp.trans hup
    rw [exec_registerWrite hup', HostSide.writeWindow_four _ (by omega) (by omega), half_shift]
    exact congrArg (fun h => Host.Outcome.next (s.setHost h)) hhigh

end

section
/-! PROOF. The accesses of the register window (R195): those it ignores, those that are commands, and what reads find. -/

namespace Sys2Proof.Machine

/-- The 4-byte writes that the window ignores, whatever the value. -/
def HostPort.ignores (p : HostPort) (off : Nat) : Prop :=
  off = 0 ∨ off = 4 ∨ off = 0xC ∨ (0x38 ≤ off ∧ off < 0x100) ∨ 0x204 ≤ off
    ∨ (0x10 ≤ off ∧ off < 0x38 ∧ p.enable = true) ∨ (off = 8 ∧ p.ready = false)

theorem HostSide.writeWord_ignored {h : HostSide} {off : Nat} (hoff : h.port.ignores off) (v : BitVec 32) :
    h.writeWord off v = h := by
  unfold HostPort.ignores at hoff
  unfold HostSide.writeWord
  by_cases h8 : off = 8
  · have hready : ¬(h.port.ready = true ∧ v.getLsbD 0 ≠ h.port.enable) := fun hh => by
      rw [show h.port.ready = false by grind] at hh
      nomatch hh.1
    rw [if_pos h8, HostSide.writeControl, if_neg hready]
  rw [if_neg h8]
  by_cases hconfig : 0x10 ≤ off ∧ off < 0x38
  · rw [if_pos hconfig, if_pos (show h.port.enable = true by grind)]
  · rw [if_neg hconfig, if_neg (by omega), if_neg (by omega), if_neg (by omega)]

theorem HostSide.writeWindow_other (h : HostSide) {off size : Nat} (hsize : (size ≠ 4 ∧ size ≠ 8) ∨ off % size ≠ 0)
    (v : BitVec 64) : h.writeWindow off size v = h := by
  have h4 : ¬(size = 4 ∧ off % 4 = 0 ∧ off < 0x1000) := by
    rintro ⟨rfl, halign, _⟩; omega
  have h8 : ¬(size = 8 ∧ off % 8 = 0 ∧ off < 0x1000) := by
    rintro ⟨rfl, halign, _⟩; omega
  rw [HostSide.writeWindow, if_neg h4, if_neg h8]

/-- A write of 4 or 8 bytes all of whose 4-byte writes are ignored. -/
theorem HostSide.writeWindow_ignored {h : HostSide} {off size : Nat} (hlow : h.port.ignores off)
    (hhigh : size = 8 → off % 8 = 0 → h.port.ignores (off + 4)) (v : BitVec 64) : h.writeWindow off size v = h := by
  unfold HostSide.writeWindow
  split
  · exact HostSide.writeWord_ignored hlow _
  · split
    case isTrue h8 => rw [HostSide.writeWord_ignored hlow, HostSide.writeWord_ignored (hhigh h8.1 h8.2.1)]
    case isFalse => rfl

/-- A register write that the window ignores, or that a link that is down does not bring, changes nothing. -/
theorem exec_registerWrite_ignored {s : State} {off size : Nat} {v : BitVec 64}
    (hignored : s.host.writeWindow off size v = s.host) : exec (.registerWrite off size v) s = .next s := by
  change Host.Outcome.next (s.setHost (s.host.onLink fun h => h.writeWindow off size v)) = _
  rw [HostSide.onLink, hignored, ite_self]
  rfl

/-- A 4-byte write that does what a command's operation on the host side does. -/
theorem exec_registerWrite_four {s : State} {off : Nat} {v : BitVec 64} {f : HostSide → HostSide} (halign : off % 4 = 0)
    (hoff : off < 0x1000) (hword : s.host.writeWord off (half v false) = f s.host) :
    exec (.registerWrite off 4 v) s = .next (s.setHost (s.host.onLink f)) := by
  change Host.Outcome.next (s.setHost (s.host.onLink fun h => h.writeWindow off 4 v)) = _
  rw [HostSide.onLink, HostSide.onLink, HostSide.writeWindow_four _ halign hoff, hword]

theorem half_false_getLsbD (v : BitVec 64) : (half v false).getLsbD 0 = v.getLsbD 0 := by simp [half]

theorem half_false_eq (v : BitVec 64) : half v false = v.setWidth 32 := by
  refine BitVec.eq_of_getLsbD_eq fun i hi => ?_
  simp [half, hi]

theorem HostSide.writeWord_control (h : HostSide) (v : BitVec 32) : h.writeWord 8 v = h.writeControl (v.getLsbD 0) := rfl

theorem HostSide.writeWord_tail (h : HostSide) (n : RingId) (v : BitVec 32) :
    h.writeWord (0x100 + 4 * n.val) v = h.writeTail n v := by
  have hn := n.isLt
  have hring : Fin.ofNat 32 ((0x100 + 4 * n.val - 0x100) / 4) = n := Fin.ext (by simp only [Fin.ofNat]; omega)
  rw [HostSide.writeWord, if_neg (by omega), if_neg (by omega), if_pos (by omega), hring]

theorem HostSide.writeWord_cqHead (h : HostSide) (n : RingId) (v : BitVec 32) :
    h.writeWord (0x180 + 4 * n.val) v = h.writeCqHead n v := by
  have hn := n.isLt
  have hring : Fin.ofNat 32 ((0x180 + 4 * n.val - 0x180) / 4) = n := Fin.ext (by simp only [Fin.ofNat]; omega)
  rw [HostSide.writeWord, if_neg (by omega), if_neg (by omega), if_neg (by omega), if_pos (by omega), hring]

theorem HostSide.writeWord_eqHead (h : HostSide) (v : BitVec 32) : h.writeWord 0x200 v = h.writeEqHead v := rfl

/-! ## The link stays up -/

theorem HostSide.writeTail_linkUp (h : HostSide) (n : RingId) (v : BitVec 32) :
    (h.writeTail n v).port.linkUp = h.port.linkUp := by
  unfold HostSide.writeTail
  dsimp only
  split
  · split
    · rfl
    · rw [HostSide.raise_port]; rfl
  · rfl

theorem HostSide.writeCqHead_linkUp (h : HostSide) (n : RingId) (v : BitVec 32) :
    (h.writeCqHead n v).port.linkUp = h.port.linkUp := by
  unfold HostSide.writeCqHead
  dsimp only
  split
  · split
    · rfl
    · rw [HostSide.raise_port]; rfl
  · rfl

theorem HostSide.writeEqHead_linkUp (h : HostSide) (v : BitVec 32) : (h.writeEqHead v).port.linkUp = h.port.linkUp := by
  unfold HostSide.writeEqHead
  dsimp only
  split
  · split
    · split
      · rfl
      · rw [HostSide.postEvents_port]; rfl
    · rw [HostSide.raise_port]; rfl
  · rfl

theorem HostSide.writeControl_linkUp (h : HostSide) (en : Bool) : (h.writeControl en).port.linkUp = h.port.linkUp := by
  unfold HostSide.writeControl HostSide.enable
  split
  · split
    · split <;> rfl
    · rfl
  · rfl

theorem HostSide.writeWord_linkUp (h : HostSide) (off : Nat) (v : BitVec 32) :
    (h.writeWord off v).port.linkUp = h.port.linkUp := by
  unfold HostSide.writeWord
  split
  · exact h.writeControl_linkUp _
  · split
    · split
      · rfl
      · exact (h.port.writeConfig_beside off v).linkUp
    · split
      · exact h.writeTail_linkUp _ v
      · split
        · exact h.writeCqHead_linkUp _ v
        · split
          · exact h.writeEqHead_linkUp v
          · rfl

/-- An aligned 8-byte write is two 4-byte writes, the low half first. -/
theorem exec_registerWrite_eight {s : State} {off : Nat} (halign : off % 8 = 0) (hoff : off + 8 ≤ 0x1000) (v : BitVec 64) :
    ∃ t, exec (.registerWrite off 4 v) s = .next t
      ∧ exec (.registerWrite off 8 v) s = exec (.registerWrite (off + 4) 4 (v >>> 32)) t := by
  by_cases hup : s.host.port.linkUp = true
  · refine ⟨_, exec_registerWrite hup off 4 v, ?_⟩
    have hup' : (s.setHost (s.host.writeWindow off 4 v)).host.port.linkUp = true := by
      rw [State.setHost_host, HostSide.writeWindow_four _ (by omega) (by omega), HostSide.writeWord_linkUp, hup]
    rw [exec_registerWrite hup, exec_registerWrite hup', HostSide.writeWindow_eight _ halign (by omega),
      HostSide.writeWindow_four _ (by omega) (by omega), State.setHost_host,
      HostSide.writeWindow_four _ (by omega) (by omega), half_shift]
    rfl
  · have hdown : ∀ o size w, exec (.registerWrite o size w) s = .next s := fun o size w => by
      change Host.Outcome.next (s.setHost (s.host.onLink fun h => h.writeWindow o size w)) = _
      rw [HostSide.onLink, if_neg hup]
      rfl
    exact ⟨s, hdown _ _ _, by rw [hdown, hdown]⟩

/-! ## Reads -/

/-- Offsets without a register read 0. -/
theorem State.readWord_none (s : State) {off : Nat} (hoff : off = 0xC ∨ (0x38 ≤ off ∧ off < 0x100) ∨ 0x204 ≤ off) :
    s.readWord off = 0 := by
  unfold State.readWord
  dsimp only
  rw [if_neg (by omega), if_neg (by omega), if_neg (by omega)]
  by_cases h10 : off < 0x10
  · rw [if_pos h10]
  rw [if_neg h10, if_neg (by omega), if_neg (by omega), if_neg (by omega), if_neg (by omega), if_neg (by omega)]
  by_cases h100 : off < 0x100
  · rw [if_pos h100]
  rw [if_neg h100, if_neg (by omega), if_neg (by omega), if_neg (by omega)]

theorem State.readWindow_none (s : State) {off size : Nat} (hoff : (size ≠ 4 ∧ size ≠ 8) ∨ off % size ≠ 0
    ∨ (off = 0x00C ∧ size = 4) ∨ (0x038 ≤ off ∧ off + size ≤ 0x100) ∨ 0x204 ≤ off) : s.readWindow off size = 0 := by
  unfold State.readWindow
  split
  case isTrue h4 =>
    obtain ⟨rfl, halign⟩ := h4
    rw [s.readWord_none (by omega)]; rfl
  case isFalse =>
    split
    case isTrue h8 =>
      obtain ⟨rfl, halign⟩ := h8
      rw [s.readWord_none (by omega), s.readWord_none (by omega)]; rfl
    case isFalse => rfl

theorem State.readWindow_ident (s : State) : s.readWindow 0 4 = identValue.setWidth 64 := by
  rw [State.readWindow, if_pos ⟨rfl, rfl⟩, State.readWord, if_pos rfl]

theorem State.readWindow_status (s : State) : s.readWindow 4 4 = (statusValue s).setWidth 64 := by
  rw [State.readWindow, if_pos ⟨rfl, rfl⟩, State.readWord, if_neg (by decide), if_pos rfl]

/-- IDENT with any revision: the part code in its low half, the vendor code at the top. -/
theorem ident_fields (r : BitVec 8) :
    (((0x6D : BitVec 8) ++ r ++ (0x3216 : BitVec 16)).setWidth 64).extractLsb' 0 16 = (0x3216 : BitVec 16)
      ∧ (((0x6D : BitVec 8) ++ r ++ (0x3216 : BitVec 16)).setWidth 64).extractLsb' 24 8 = (0x6D : BitVec 8) := by
  constructor
  · refine BitVec.eq_of_getLsbD_eq fun i hi => ?_
    rw [BitVec.getLsbD_extractLsb', BitVec.getLsbD_setWidth, BitVec.getLsbD_append]
    simp [hi, show i < 64 by omega]
  · refine BitVec.eq_of_getLsbD_eq fun i hi => ?_
    rw [BitVec.getLsbD_extractLsb', BitVec.getLsbD_setWidth, BitVec.getLsbD_append, BitVec.getLsbD_append]
    simp [hi, show ¬24 + i < 16 by omega, show ¬24 + i - 16 < 8 by omega, show 24 + i < 64 by omega,
      show 24 + i - 16 - 8 = i by omega]

/-- STATUS as a number of its five fields. -/
theorem statusValue_fields (r e c a : Bool) (k : PoolState) :
    let x := (BitVec.ofNat 32 (bit r + 2 * bit e + 4 * bit c + 8 * bit a + 16 * k.code)).setWidth 64
    x.getLsbD 0 = r ∧ x.getLsbD 1 = e ∧ x.getLsbD 2 = c ∧ x.getLsbD 3 = a ∧ (x.extractLsb' 4 2).toNat = k.code
      ∧ x.extractLsb' 6 58 = 0 := by
  revert r e c a
  cases k <;> decide

theorem PoolSide.anyFailed_iff (p : PoolSide) : p.anyFailed = true ↔ ∃ c : ChanNo, p.channels[c] = .failed := by
  rw [PoolSide.anyFailed, List.any_eq_true]
  constructor
  · rintro ⟨x, hx, hfailed⟩
    obtain ⟨i, hi, rfl⟩ := List.getElem_of_mem hx
    exact ⟨⟨i, by simpa using hi⟩, by simpa using hfailed⟩
  · rintro ⟨c, hc⟩
    exact ⟨p.channels[c], by simp, by simp [hc]⟩

end Sys2Proof.Machine

open Sys2Proof Sys2Proof.Machine

/-- Settles O11. -/
theorem windowAccesses : Obligations.WindowAccesses := by
  intro s v off size
  obtain ⟨hready, henable, herror, hfailed, hcode, hrest⟩ := statusValue_fields s.host.port.ready s.host.port.enable
    s.host.port.configError s.pool.anyFailed s.pool.control.state
  refine ⟨fun hignored => ?ignored, ?control, fun n => ⟨?tail, ?cqHead⟩, ?eqHead,
    fun halign hoff => exec_registerWrite_eight halign hoff v, fun hnone => s.readWindow_none hnone,
    by rw [s.readWindow_ident]; exact (ident_fields Config.revision).1,
    by rw [s.readWindow_ident]; exact (ident_fields Config.revision).2, hready, henable, herror, ?failed, hcode,
    hrest⟩
  case ignored =>
    refine exec_registerWrite_ignored ?_
    by_cases hsize : (size ≠ 4 ∧ size ≠ 8) ∨ off % size ≠ 0
    · exact s.host.writeWindow_other hsize v
    · have h48 : size = 4 ∨ size = 8 := by omega
      have halign : size = 8 → off % 8 = 0 := fun h => by subst h; omega
      refine HostSide.writeWindow_ignored ?_ (fun h8 _ => ?_) v
      · unfold HostPort.ignores; grind
      · unfold HostPort.ignores; grind
  case control =>
    rw [exec_registerWrite_four (f := fun h => h.writeControl (v.getLsbD 0)) (by decide) (by decide)
      (by rw [HostSide.writeWord_control, half_false_getLsbD])]
    cases v.getLsbD 0 <;> rfl
  case tail =>
    exact exec_registerWrite_four (f := fun h => h.writeTail n (v.setWidth 32)) (by omega) (by omega)
      (by rw [HostSide.writeWord_tail, half_false_eq])
  case cqHead =>
    exact exec_registerWrite_four (f := fun h => h.writeCqHead n (v.setWidth 32)) (by omega) (by omega)
      (by rw [HostSide.writeWord_cqHead, half_false_eq])
  case eqHead =>
    exact exec_registerWrite_four (f := fun h => h.writeEqHead (v.setWidth 32)) (by decide) (by decide)
      (by rw [HostSide.writeWord_eqHead, half_false_eq])
  case failed => rw [← PoolSide.anyFailed_iff]; exact iff_of_eq (congrArg (· = true) hfailed)

end

section
/-! PROOF. Fields of records, the head writes of completion rings, the hand-over of completions and the arbiter's choice. -/

namespace Sys2Proof.Machine

/-! ## Bytes of a number, and fields of what is written (R203) -/

@[simp] theorem length_natToBytes (n v : Nat) : (natToBytes n v).length = n := by
  induction n generalizing v with
  | zero => rfl
  | succ n ih => rw [natToBytes, List.length_cons, ih]

theorem bytesToNat_natToBytes (n v : Nat) : bytesToNat (natToBytes n v) = v % 256 ^ n := by
  induction n generalizing v with
  | zero => simp [natToBytes, bytesToNat, Nat.mod_one]
  | succ n ih =>
    rw [natToBytes, bytesToNat, ih, BitVec.toNat_ofNat, Nat.pow_succ' (m := 256), Nat.mod_mul (a := 256)]

/-- The number in bytes `off` to `off + n - 1`. -/
def fieldAt (bytes : List Byte) (off n : Nat) : Nat := bytesToNat ((bytes.drop off).take n)

/-- A field that ends before what follows. -/
theorem fieldAt_append_left {xs : List Byte} {off n : Nat} (h : off + n ≤ xs.length) (ys : List Byte) :
    fieldAt (xs ++ ys) off n = fieldAt xs off n := by
  rw [fieldAt, fieldAt, List.drop_append_of_le_length (by omega), List.take_append_of_le_length (by simp; omega)]

/-- A field that begins behind what comes first. -/
theorem fieldAt_append_right {xs : List Byte} {off : Nat} (h : xs.length ≤ off) (n : Nat) (ys : List Byte) :
    fieldAt (xs ++ ys) off n = fieldAt ys (off - xs.length) n := by
  rw [fieldAt, fieldAt, List.drop_append, List.drop_eq_nil_of_le h, List.nil_append]

theorem fieldAt_natToBytes (n v : Nat) : fieldAt (natToBytes n v) 0 n = v % 256 ^ n := by
  rw [fieldAt, List.drop_zero, List.take_of_length_le (by simp), bytesToNat_natToBytes]

/-! ## Head writes (R152) -/

/-- The records that a head write consumes: the distance from the old head to the new one. -/
theorem consumed_eq {value head size : Nat} (hhead : head < size) (hvalue : value < size) :
    consumed value head size = if head ≤ value then value - head else value + size - head := by
  unfold consumed
  split
  case isTrue hle => rw [show value + size - head = value - head + size by omega, Nat.add_mod_right, Nat.mod_eq_of_lt (by omega)]
  case isFalse hle => rw [Nat.mod_eq_of_lt (by omega)]

theorem exec_cqHeadWrite {s : State} (hup : s.host.port.linkUp = true) (n : RingId) (v : BitVec 32) :
    exec (.cqHeadWrite n v) s = .next (s.setHost (s.host.writeCqHead n v)) := by
  change Host.Outcome.next (s.setHost (s.host.onLink fun h => h.writeCqHead n v)) = _
  rw [HostSide.onLink, if_pos hup]

theorem exec_eqHeadWrite {s : State} (hup : s.host.port.linkUp = true) (v : BitVec 32) :
    exec (.eqHeadWrite v) s = .next (s.setHost (s.host.writeEqHead v)) := by
  change Host.Outcome.next (s.setHost (s.host.onLink fun h => h.writeEqHead v)) = _
  rw [HostSide.onLink, if_pos hup]

/-! ## The arbiter (R155, R156) -/

/-- The distance of a ring from the place after the round-robin position, upward and around. -/
def searchRank (position m : RingId) : Nat := (m.val + 31 - position.val) % 32

theorem mem_searchOrder (position m : RingId) : m ∈ searchOrder position ↔ m ≠ 0 := by
  simp only [searchOrder, List.mem_append, List.mem_filter, List.mem_finRange, true_and, decide_eq_true_eq, Fin.lt_def,
    Fin.le_def, ne_eq, Fin.ext_iff, Fin.val_zero]
  omega

/-- The search goes by rising rank. -/
theorem searchOrder_pairwise (position : RingId) :
    (searchOrder position).Pairwise fun m n => searchRank position m < searchRank position n := by
  have hfin : (List.finRange 32).Pairwise (· < ·) := List.pairwise_lt_finRange 32
  rw [searchOrder, List.pairwise_append]
  refine ⟨?_, ?_, fun m hm n hn => ?_⟩
  · refine (hfin.filter _).imp_of_mem fun {m n} hm hn hlt => ?_
    simp only [List.mem_filter, decide_eq_true_eq, Fin.lt_def] at hm hn hlt
    unfold searchRank
    omega
  · refine (hfin.filter _).imp_of_mem fun {m n} hm hn hlt => ?_
    simp only [List.mem_filter, decide_eq_true_eq, Fin.lt_def, Fin.le_def] at hm hn hlt
    unfold searchRank
    omega
  · simp only [List.mem_filter, decide_eq_true_eq, Fin.lt_def, Fin.le_def] at hm hn
    unfold searchRank
    omega

/-- The first element of a list sorted by rank that satisfies `p` is the one of least rank. -/
theorem find?_eq_some_iff_of_ranked {α : Type} {rank : α → Nat} {xs : List α} (hxs : xs.Pairwise fun a b => rank a < rank b)
    (p : α → Bool) (a : α) :
    xs.find? p = some a ↔ a ∈ xs ∧ p a = true ∧ ∀ b ∈ xs, p b = true → rank a ≤ rank b := by
  induction xs with
  | nil => simp
  | cons x xs ih =>
    obtain ⟨hx, hrest⟩ := List.pairwise_cons.mp hxs
    rw [List.find?_cons]
    cases hp : p x with
    | true =>
      simp only [Option.some.injEq, List.mem_cons]
      constructor
      · rintro rfl
        refine ⟨.inl rfl, hp, fun b hb _ => ?_⟩
        rcases hb with rfl | hb
        · exact Nat.le_refl _
        · exact Nat.le_of_lt (hx b hb)
      · rintro ⟨ha, _, hleast⟩
        rcases ha with rfl | ha
        · rfl
        · exact absurd (hleast x (.inl rfl) hp) (Nat.not_le_of_lt (hx a ha))
    | false =>
      rw [ih hrest]
      simp only [List.mem_cons]
      constructor
      · rintro ⟨ha, hpa, hleast⟩
        refine ⟨.inr ha, hpa, fun b hb hpb => ?_⟩
        rcases hb with rfl | hb
        · rw [hp] at hpb; nomatch hpb
        · exact hleast b hb hpb
      · rintro ⟨ha, hpa, hleast⟩
        rcases ha with rfl | ha
        · rw [hp] at hpa; nomatch hpa
        · exact ⟨ha, hpa, fun b hb => hleast b (.inr hb)⟩

theorem HostSide.canFetch_iff (h : HostSide) (n : RingId) : h.canFetch n = true ↔
    (h.rq n).state = .active ∧ ((h.rq n).tail + (h.rq n).size - (h.rq n).head) % (h.rq n).size ≠ 0
      ∧ (h.cq (h.rq n).cq).state = .active
      ∧ (h.cq (h.rq n).cq).unconsumed + (h.cq (h.rq n).cq).reserved < (h.cq (h.rq n).cq).size := by
  simp only [HostSide.canFetch, Bool.and_eq_true, beq_iff_eq, decide_eq_true_eq, Rq.pendingCount, Cq.freeCredit,
    Nat.pos_iff_ne_zero, and_assoc, ne_eq]
  refine and_congr_right fun _ => and_congr_right fun _ => and_congr_right fun _ => by omega

end Sys2Proof.Machine

open Sys2Proof Sys2Proof.Machine

/-- Settles O13. -/
theorem completionHeadWrite : Obligations.CompletionHeadWrite := by
  intro s n v hup q k
  refine ⟨fun hstate => ?ignored, fun hstate hhead hv hk => ?consumes, fun hstate hhead hbad => ?faults⟩
  case ignored =>
    rw [exec_cqHeadWrite hup, HostSide.writeCqHead, if_neg hstate]; rfl
  case consumes =>
    have hconsumed : consumed v.toNat q.head q.size = k := consumed_eq hhead hv
    rw [exec_cqHeadWrite hup, HostSide.writeCqHead, if_pos hstate, hconsumed, if_pos ⟨hv, hk⟩]
  case faults =>
    have hnot : ¬(v.toNat < q.size ∧ consumed v.toNat q.head q.size ≤ q.unconsumed) := fun ⟨hv, hk⟩ => by
      rw [consumed_eq hhead hv] at hk
      exact hbad.elim (fun h => by omega) (fun h => absurd hk (Nat.not_le_of_lt h))
    rw [exec_cqHeadWrite hup, HostSide.writeCqHead, if_pos hstate, if_neg hnot]

/-- Settles O15. -/
theorem completionHandOver : Obligations.CompletionHandOver := by
  intro h c n q a
  have hwindow : h.port.inWindow a 32 = true ↔ h.port.windowLow.toNat ≤ a ∧ a + 31 ≤ h.port.windowHigh.toNat := by
    have hlast := h.port.windowHigh.isLt
    simp only [HostPort.inWindow, Bool.and_eq_true, decide_eq_true_eq]
    omega
  have hunfold : h.handOver c = match q.state with
      | .active => if h.port.inWindow a 32 then
          (h.setOut (h.out ++ .write a (completionRecord c (h.rq c.ring).head q.lap)
            :: interruptFor q.intEn q.armed q.vector)).setCq n q.posted
        else (h.setCq n { q with state := .faulted, reserved := q.reserved - 1 }).raise
          (.queueFault .completion n .postFailed)
      | .faulted => h.setCq n { q with reserved := q.reserved - 1 }
      | .absent => h := rfl
  refine ⟨fun hactive hlow hhigh => ?posted, fun hactive hout => ?outside, fun hfaulted => ?discarded,
    fun head lap => ?layout⟩
  case posted =>
    have hinterrupt : interruptFor q.intEn q.armed q.vector
        = if q.intEn = true ∧ q.armed = true then [.interrupt q.vector] else [] := by
      simp [interruptFor]
    rw [hunfold]
    split
    case h_1 => rw [if_pos (hwindow.mpr ⟨hlow, hhigh⟩), hinterrupt]; rfl
    case h_2 hfaulted => rw [hactive] at hfaulted; nomatch hfaulted
    case h_3 habsent => rw [hactive] at habsent; nomatch habsent
  case outside =>
    rw [hunfold]
    split
    case h_1 => rw [if_neg (mt hwindow.mp hout)]
    case h_2 hfaulted => rw [hactive] at hfaulted; nomatch hfaulted
    case h_3 habsent => rw [hactive] at habsent; nomatch habsent
  case discarded =>
    rw [hunfold]
    split
    case h_1 hactive => rw [hactive] at hfaulted; nomatch hfaulted
    case h_2 => rfl
    case h_3 habsent => rw [hfaulted] at habsent; nomatch habsent
  case layout =>
    have hid := c.id.isLt
    have hring := c.ring.isLt
    have hstatus : c.status.code < 256 := by cases c.status <;> decide
    intro record at_
    have hfield : ∀ off n, at_ off n = fieldAt record off n := fun _ _ => rfl
    simp only [hfield, record, completionRecord]
    simp [fieldAt_append_left, fieldAt_append_right, fieldAt_natToBytes]
    exact ⟨hid, by omega, hstatus, by cases lap <;> rfl⟩

/-- Settles O16. -/
theorem arbiterChoice : Obligations.ArbiterChoice := by
  intro h rank ready
  have hdata : ∀ n, h.dataEligible n = true ↔ ready n ∧ h.tracker.reserved < h.tracker.availableSlots.length := fun n => by
    rw [HostSide.dataEligible, Bool.and_eq_true, h.canFetch_iff, decide_eq_true_eq, Tracker.reservable, Nat.sub_pos_iff_lt]
  have hserved : h.rq0Eligible = false → h.served = (searchOrder h.engine.position).find? h.dataEligible := fun h0 => by
    rw [HostSide.served, h0]; rfl
  refine ⟨?rq0, hdata, fun h0 => ?first, fun h0 n => ?next, ?none⟩
  case rq0 => rw [HostSide.rq0Eligible, Bool.and_eq_true, h.canFetch_iff, beq_iff_eq]
  case first => rw [HostSide.served, if_pos h0]
  case next =>
    rw [hserved h0, find?_eq_some_iff_of_ranked (searchOrder_pairwise h.engine.position)]
    simp only [mem_searchOrder]
    rfl
  case none =>
    cases h0 : h.rq0Eligible with
    | true => simp [HostSide.served, h0]
    | false => simp [hserved h0, List.find?_eq_none, mem_searchOrder]

end

section
/-! PROOF. The event unit (R188 to R193): entering, posting oldest first, and the head write of the event ring. -/

namespace Sys2Proof.Machine

/-! ## Postings -/

/-- The lap of the `j`-th record posted from now on (R153). -/
def EvRing.lapAt (q : EvRing) (j : Nat) : Bool := if q.tail + j < q.size then q.lap else !q.lap

/-- The event ring after `n` postings. -/
def EvRing.postedBy (q : EvRing) (n : Nat) : EvRing :=
  { q with tail := (q.tail + n) % q.size, lap := q.lapAt n, unconsumed := q.unconsumed + n, armed := q.armed && !q.intEn }

/-- What the `j`-th posting from now on sends: the record, and with the first an interrupt message of an enabled, armed
ring (R153, R166, R192). -/
def EvRing.postMsgs (q : EvRing) (overflow : Bool) (j : Nat) (en : EventEntry) : List LinkMsg :=
  LinkMsg.write (q.base + 32 * ((q.tail + j) % q.size)) (eventRecord en (q.lapAt j) (overflow && j == 0))
    :: (if q.intEn = true ∧ q.armed = true ∧ j = 0 then [.interrupt q.vector] else [])

/-- The postings that the event ring has room for. -/
def HostSide.eventPlaces (g : HostSide) : Nat := min g.events.entries.length (g.engine.eq.size - g.engine.eq.unconsumed)

/-- The host side after its `n` oldest pending entries have been posted. -/
def HostSide.afterPostings (g : HostSide) (n : Nat) : HostSide :=
  ((g.setOut (g.out ++ ((g.events.entries.take n).mapIdx (g.engine.eq.postMsgs g.events.overflow)).flatten)).setEq
    (g.engine.eq.postedBy n)).setEvents { g.events with entries := g.events.entries.drop n, overflow := false }

/-- Each place that a posting goes to lies in the window. -/
def HostSide.placesInside (g : HostSide) : Prop := ∀ j, j < g.eventPlaces →
  g.port.inWindow (g.engine.eq.base + 32 * ((g.engine.eq.tail + j) % g.engine.eq.size)) 32 = true

theorem EvRing.lapAt_one {q : EvRing} (htail : q.tail < q.size) :
    q.lapAt 1 = if q.tail + 1 = q.size then !q.lap else q.lap := by
  unfold EvRing.lapAt
  by_cases hlast : q.tail + 1 = q.size
  · rw [if_neg (by omega), if_pos hlast]
  · rw [if_pos (by omega), if_neg hlast]

theorem EvRing.posted_eq {q : EvRing} (htail : q.tail < q.size) : q.posted = q.postedBy 1 := by
  rw [EvRing.postedBy, EvRing.lapAt_one htail]
  rfl

theorem EvRing.tail_postedBy_one {q : EvRing} (htail : q.tail < q.size) :
    (q.postedBy 1).tail = if q.tail + 1 = q.size then 0 else q.tail + 1 := by
  change (q.tail + 1) % q.size = _
  split
  case isTrue h => rw [h, Nat.mod_self]
  case isFalse => exact Nat.mod_eq_of_lt (by omega)

theorem EvRing.lapAt_postedBy_one {q : EvRing} (htail : q.tail < q.size) {j : Nat} (hj : j < q.size) :
    (q.postedBy 1).lapAt j = q.lapAt (j + 1) := by
  have hlap : (q.postedBy 1).lap = if q.tail + 1 = q.size then !q.lap else q.lap := EvRing.lapAt_one htail
  have hsize : (q.postedBy 1).size = q.size := rfl
  rw [EvRing.lapAt, EvRing.lapAt, hlap, EvRing.tail_postedBy_one htail, hsize]
  by_cases hlast : q.tail + 1 = q.size
  · rw [if_pos hlast, if_pos hlast, if_pos (by omega), if_neg (by omega)]
  · rw [if_neg hlast, if_neg hlast, show q.tail + 1 + j = q.tail + (j + 1) by omega]

theorem EvRing.place_postedBy_one (q : EvRing) (j : Nat) :
    ((q.postedBy 1).tail + j) % q.size = (q.tail + (j + 1)) % q.size := by
  change ((q.tail + 1) % q.size + j) % q.size = _
  rw [Nat.mod_add_mod, show q.tail + 1 + j = q.tail + (j + 1) by omega]

theorem EvRing.postedBy_postedBy {q : EvRing} (htail : q.tail < q.size) {n : Nat} (hn : n < q.size) :
    (q.postedBy 1).postedBy n = q.postedBy (n + 1) := by
  have hplace := q.place_postedBy_one n
  have hlap := EvRing.lapAt_postedBy_one htail hn
  unfold EvRing.postedBy at hplace hlap ⊢
  dsimp only at hplace hlap ⊢
  rw [hplace, hlap, Nat.add_assoc, Nat.add_comm 1 n]
  cases q.intEn <;> simp

theorem EvRing.postMsgs_postedBy_one {q : EvRing} (htail : q.tail < q.size) (overflow : Bool) {j : Nat} (hj : j < q.size)
    (en : EventEntry) : (q.postedBy 1).postMsgs false j en = q.postMsgs overflow (j + 1) en := by
  have hoff : ¬((q.postedBy 1).intEn = true ∧ (q.postedBy 1).armed = true ∧ j = 0) := by
    rintro ⟨hint, harmed, _⟩
    change (q.armed && !q.intEn) = true at harmed
    rw [show q.intEn = true from hint] at harmed
    simp at harmed
  have hfirst : (overflow && (j + 1 == 0)) = false := by simp
  rw [EvRing.postMsgs, EvRing.postMsgs, if_neg hoff, if_neg (by simp), hfirst, EvRing.lapAt_postedBy_one htail hj,
    show (q.postedBy 1).size = q.size from rfl, q.place_postedBy_one]
  rfl

/-- The first posting, and then the others. -/
theorem HostSide.afterPostings_succ {g : HostSide} (htail : g.engine.eq.tail < g.engine.eq.size) {en : EventEntry}
    {rest : List EventEntry} (hentries : g.events.entries = en :: rest) {n : Nat} (hn : n < g.engine.eq.size) :
    (g.afterPostings 1).afterPostings n = g.afterPostings (n + 1) := by
  have hmsgs : (rest.take n).mapIdx ((g.engine.eq.postedBy 1).postMsgs false)
      = (rest.take n).mapIdx fun j => g.engine.eq.postMsgs g.events.overflow (j + 1) := by
    rw [List.mapIdx_eq_mapIdx_iff]
    intro j hj
    rw [List.length_take] at hj
    exact EvRing.postMsgs_postedBy_one htail _ (by omega) _
  have hout : (g.afterPostings 1).out = g.out ++ g.engine.eq.postMsgs g.events.overflow 0 en := by
    simp [HostSide.afterPostings, hentries]
  have hleft : (g.afterPostings 1).events.entries = rest := by
    simp [HostSide.afterPostings, hentries]
  have hall : ((g.events.entries.take (n + 1)).mapIdx (g.engine.eq.postMsgs g.events.overflow)).flatten
      = g.engine.eq.postMsgs g.events.overflow 0 en
        ++ ((rest.take n).mapIdx fun j => g.engine.eq.postMsgs g.events.overflow (j + 1)).flatten := by
    rw [hentries, List.take_succ_cons, List.mapIdx_cons, List.flatten_cons]
  have hdrop : rest.drop n = g.events.entries.drop (n + 1) := by rw [hentries]; rfl
  calc (g.afterPostings 1).afterPostings n
      = ((g.setOut ((g.afterPostings 1).out ++ (((g.afterPostings 1).events.entries.take n).mapIdx
          ((g.engine.eq.postedBy 1).postMsgs false)).flatten)).setEq ((g.engine.eq.postedBy 1).postedBy n)).setEvents
          { g.events with entries := (g.afterPostings 1).events.entries.drop n, overflow := false } := rfl
    _ = g.afterPostings (n + 1) := by
      rw [hout, hleft, hmsgs, EvRing.postedBy_postedBy htail hn, List.append_assoc, ← hall, hdrop]
      rfl

theorem HostSide.eventPlaces_succ {g : HostSide} {k : Nat} (hn : g.eventPlaces = k + 1) :
    (g.afterPostings 1).eventPlaces = k := by
  have hlength : (g.afterPostings 1).events.entries.length = g.events.entries.length - 1 := List.length_drop
  rw [HostSide.eventPlaces] at hn ⊢
  rw [hlength]
  change min _ (g.engine.eq.size - (g.engine.eq.unconsumed + 1)) = k
  omega

/-- Nothing is posted without an entry or without room. -/
theorem HostSide.postEvents_none {g : HostSide} (hnone : g.events.entries = [] ∨ g.engine.eq.hasRoom = false) (k : Nat) :
    g.postEvents k = g := by
  cases k with
  | zero => rfl
  | succ k =>
    unfold HostSide.postEvents
    split
    case h_1 => rfl
    case h_2 en rest hentries =>
      rcases hnone with hempty | hroom
      · rw [hempty] at hentries; nomatch hentries
      · dsimp only; rw [hroom]; rfl

theorem EvRing.hasRoom_iff (q : EvRing) : q.hasRoom = true ↔ q.state = .active ∧ q.unconsumed < q.size := by
  simp [EvRing.hasRoom]

theorem EvRing.hasRoom_eq_false {q : EvRing} (h : q.state ≠ .active ∨ q.size ≤ q.unconsumed) : q.hasRoom = false := by
  rw [Bool.eq_false_iff, Ne, q.hasRoom_iff]
  rintro ⟨hactive, hroom⟩
  exact h.elim (· hactive) (fun hfull => by omega)

/-- One posting inside the window. -/
theorem HostSide.postEvents_succ {g : HostSide} {en : EventEntry} {rest : List EventEntry}
    (hentries : g.events.entries = en :: rest) (hroom : g.engine.eq.hasRoom = true)
    (htail : g.engine.eq.tail < g.engine.eq.size)
    (hinside : g.port.inWindow (g.engine.eq.base + 32 * g.engine.eq.tail) 32 = true) (k : Nat) :
    g.postEvents (k + 1) = (g.afterPostings 1).postEvents k := by
  have hplace : (g.engine.eq.tail + 0) % g.engine.eq.size = g.engine.eq.tail := Nat.mod_eq_of_lt htail
  have hlap : g.engine.eq.lapAt 0 = g.engine.eq.lap := if_pos htail
  have hmsgs : g.engine.eq.postMsgs g.events.overflow 0 en = LinkMsg.write (g.engine.eq.base + 32 * g.engine.eq.tail)
      (eventRecord en g.engine.eq.lap g.events.overflow)
        :: interruptFor g.engine.eq.intEn g.engine.eq.armed g.engine.eq.vector := by
    rw [EvRing.postMsgs, hplace, hlap, interruptFor]
    simp
  have hone : g.afterPostings 1 = ((g.setOut (g.out ++ g.engine.eq.postMsgs g.events.overflow 0 en)).setEq
      (g.engine.eq.postedBy 1)).setEvents { g.events with entries := rest, overflow := false } := by
    simp [HostSide.afterPostings, hentries]
  rw [HostSide.postEvents, hentries]
  dsimp only
  rw [if_pos hroom, if_pos hinside, hone, hmsgs, EvRing.posted_eq htail]

/-- With the places of all its postings in the window, an ACTIVE event ring takes the pending entries it has room for. -/
theorem HostSide.postEvents_inside (n : Nat) {g : HostSide} (hn : g.eventPlaces = n) (hactive : g.engine.eq.state = .active)
    (htail : g.engine.eq.tail < g.engine.eq.size) (hinside : g.placesInside) {k : Nat}
    (hk : g.events.entries.length ≤ k) : g.postEvents k = if n = 0 then g else g.afterPostings n := by
  induction n generalizing g k with
  | zero =>
    rw [if_pos rfl]
    refine HostSide.postEvents_none ?_ k
    rw [HostSide.eventPlaces] at hn
    rcases Nat.eq_zero_or_pos g.events.entries.length with hempty | hsome
    · exact .inl (List.eq_nil_of_length_eq_zero hempty)
    · exact .inr (EvRing.hasRoom_eq_false (.inr (by omega)))
  | succ n ih =>
    have hmin := hn
    rw [HostSide.eventPlaces] at hmin
    obtain ⟨en, rest, hentries⟩ := List.exists_cons_of_length_pos (l := g.events.entries) (by omega)
    obtain ⟨j, rfl⟩ : ∃ j, k = j + 1 := ⟨k - 1, by rw [hentries, List.length_cons] at hk; omega⟩
    have hroom : g.engine.eq.hasRoom = true := g.engine.eq.hasRoom_iff.mpr ⟨hactive, by omega⟩
    have hfirst := hinside 0 (by omega)
    rw [Nat.add_zero, Nat.mod_eq_of_lt htail] at hfirst
    have hleft : (g.afterPostings 1).events.entries.length ≤ j := by
      change (g.events.entries.drop 1).length ≤ j
      rw [List.length_drop]; omega
    have hrest : (g.afterPostings 1).placesInside := fun i hi => by
      rw [HostSide.eventPlaces_succ hn] at hi
      have hplace := hinside (i + 1) (by omega)
      rw [← g.engine.eq.place_postedBy_one i] at hplace
      exact hplace
    have htail' : (g.afterPostings 1).engine.eq.tail < (g.afterPostings 1).engine.eq.size :=
      Nat.mod_lt _ (Nat.zero_lt_of_lt htail)
    rw [HostSide.postEvents_succ hentries hroom htail hfirst, if_neg (Nat.succ_ne_zero n),
      ih (HostSide.eventPlaces_succ hn) hactive htail' hrest hleft]
    split
    case isTrue h0 => rw [h0]
    case isFalse h0 => exact HostSide.afterPostings_succ htail hentries (by omega)

/-- On a ring that is not ACTIVE an event waits. -/
theorem HostSide.raise_inactive {h : HostSide} (hstate : h.engine.eq.state ≠ .active) (e : Event) :
    h.raise e = h.setEvents (h.events.take e) := by
  have hnone : (h.setEvents (h.events.enter e)).engine.eq.hasRoom = false := EvRing.hasRoom_eq_false (.inl hstate)
  unfold HostSide.raise EventUnit.take
  split
  · dsimp only
    rw [HostSide.postEvents_none (.inr hnone), ite_self]
  · rfl

/-- A first posting outside the window faults the ring and raises QUEUE_FAULT. -/
theorem HostSide.postEvents_outside {g : HostSide} (hentries : g.events.entries ≠ []) (hroom : g.engine.eq.hasRoom = true)
    (houtside : g.port.inWindow (g.engine.eq.base + 32 * g.engine.eq.tail) 32 = false) {k : Nat} (hk : 0 < k) :
    g.postEvents k = (g.setEq { g.engine.eq with state := .faulted }).raise (.queueFault .event 0 .postFailed) := by
  obtain ⟨j, rfl⟩ : ∃ j, k = j + 1 := ⟨k - 1, by omega⟩
  obtain ⟨en, rest, hcons⟩ := List.exists_cons_of_ne_nil hentries
  rw [HostSide.raise_inactive (by nofun), HostSide.postEvents, hcons]
  dsimp only
  rw [if_pos hroom, houtside]
  rfl

/-! ## Raising -/

theorem EventUnit.hasKey_iff (u : EventUnit) (e : Event) :
    u.hasKey e = true ↔ ∃ en ∈ u.entries, en.event.key = e.key := by
  simp [EventUnit.hasKey]

/-- The pending set after an event that finds a place. -/
theorem EventUnit.enter_accepted {u : EventUnit} {e : Event} (h : u.accepts e = true) :
    u.enter e = { u with entries := if u.hasKey e = true then u.entries.map fun en =>
      if en.event.key = e.key then { event := e, count := min 255 (en.count + 1) } else en
      else u.entries ++ [{ event := e, count := 1 }] } := by
  unfold EventUnit.enter
  split
  case isTrue hkey => rfl
  case isFalse hkey =>
    have hroom : u.entries.length < Config.eventCapacity := by simpa [EventUnit.accepts, hkey] using h
    rw [if_pos hroom]

theorem EventUnit.enter_ne_nil {u : EventUnit} {e : Event} (h : u.accepts e = true) : (u.enter e).entries ≠ [] := by
  rw [EventUnit.enter_accepted h]
  dsimp only
  split
  case isTrue hkey =>
    obtain ⟨en, hen, _⟩ := (u.hasKey_iff e).mp hkey
    exact fun hnil => List.ne_nil_of_mem hen (List.map_eq_nil_iff.mp hnil)
  case isFalse => exact List.append_ne_nil_of_right_ne_nil _ nofun

theorem HostSide.raise_disabled {h : HostSide} {e : Event} (he : ¬e.enabled h.events.enables = true) : h.raise e = h :=
  if_neg he

theorem HostSide.raise_lost {h : HostSide} {e : Event} (he : e.enabled h.events.enables = true)
    (hno : h.events.accepts e = false) : h.raise e = h.setEvents { h.events with overflow := true } := by
  simp only [EventUnit.accepts, Bool.or_eq_false_iff, decide_eq_false_iff_not] at hno
  obtain ⟨hkey, hfull⟩ := hno
  have henter : h.events.enter e = { h.events with overflow := true } := by
    rw [EventUnit.enter, hkey, if_neg nofun, if_neg hfull]
  have haccepts : h.events.accepts e = false := by rw [EventUnit.accepts, hkey, decide_eq_false hfull]; rfl
  rw [HostSide.raise, if_pos he]
  dsimp only
  rw [haccepts, if_neg nofun, henter]

theorem HostSide.raise_entered {h : HostSide} {e : Event} (he : e.enabled h.events.enables = true)
    (haccepts : h.events.accepts e = true) :
    h.raise e = (h.setEvents (h.events.enter e)).postEvents (h.events.enter e).entries.length := by
  rw [HostSide.raise, if_pos he]
  dsimp only
  rw [if_pos haccepts]
  rfl

/-! ## The head write (R152, R192) -/

/-- The event ring after a head write that consumes `k` records. -/
def EvRing.consumedBy (q : EvRing) (head k : Nat) : EvRing :=
  { q with head := head, unconsumed := q.unconsumed - k, armed := true }

theorem HostSide.writeEqHead_taken {h : HostSide} {v : BitVec 32} (hactive : h.engine.eq.state = .active)
    (hv : v.toNat < h.engine.eq.size) {k : Nat} (hk : consumed v.toNat h.engine.eq.head h.engine.eq.size = k)
    (hle : k ≤ h.engine.eq.unconsumed) :
    h.writeEqHead v = if k = 0 then h.setEq (h.engine.eq.consumedBy v.toNat k)
      else (h.setEq (h.engine.eq.consumedBy v.toNat k)).postEvents h.events.entries.length := by
  rw [HostSide.writeEqHead, if_pos hactive]
  dsimp only
  rw [hk, if_pos ⟨hv, hle⟩]
  rfl

theorem HostSide.writeEqHead_faulted {h : HostSide} {v : BitVec 32} (hactive : h.engine.eq.state = .active)
    (hbad : ¬(v.toNat < h.engine.eq.size
      ∧ consumed v.toNat h.engine.eq.head h.engine.eq.size ≤ h.engine.eq.unconsumed)) :
    h.writeEqHead v = (h.setEq { h.engine.eq with state := .faulted }).raise (.queueFault .event 0 .positionInvalid) := by
  rw [HostSide.writeEqHead, if_pos hactive]
  exact if_neg hbad

/-! ## The event record (12.4) -/

/-- Every field of an event fits its place in the record. -/
theorem Event.fields_fit (e : Event) : e.code < 256 ∧ e.reasonByte < 256 ∧ e.key.2.2.2.1 < 256 ∧ e.key.2.1 < 65536
    ∧ e.key.2.2.2.2 < 256 ∧ e.key.2.2.1 < 65536 ∧ e.detailByte < 256 ∧ e.passField < 2 ^ 32 := by
  have hstate : ∀ s : PoolState, s.code < 256 := fun s => by cases s <;> decide
  have hreason : ∀ r : MigReason, r.code < 256 := fun r => by cases r <;> decide
  have hfault : ∀ r : FaultReason, r.code < 256 := fun r => by cases r <;> decide
  have hkind : ∀ k : RingKind, k.code < 256 := fun k => by cases k <;> decide
  cases e with
  | formatDone s => simpa [Event.code, Event.reasonByte, Event.key, Event.detailByte, Event.passField] using hstate s
  | channelFailed c =>
    simp only [Event.code, Event.reasonByte, Event.key, Event.detailByte, Event.passField]; omega
  | migrationDone b r i =>
    simp only [Event.code, Event.reasonByte, Event.key, Event.detailByte, Event.passField]; omega
  | migrationFailed b r reason =>
    have := hreason reason
    simp only [Event.code, Event.reasonByte, Event.key, Event.detailByte, Event.passField]; omega
  | taintFound b r g =>
    simp only [Event.code, Event.reasonByte, Event.key, Event.detailByte, Event.passField]; omega
  | healthTableFull b r =>
    simp only [Event.code, Event.reasonByte, Event.key, Event.detailByte, Event.passField]; omega
  | scrubPassDone n =>
    have := n.isLt
    simp only [Event.code, Event.reasonByte, Event.key, Event.detailByte, Event.passField]; omega
  | queueFault k i reason =>
    have := hkind k
    have := hfault reason
    simp only [Event.code, Event.reasonByte, Event.key, Event.detailByte, Event.passField]; omega

/-- The fields of an event record. -/
theorem eventRecord_fields (en : EventEntry) (lap overflow : Bool) :
    (eventRecord en lap overflow).length = 32
      ∧ fieldAt (eventRecord en lap overflow) 0 1 = en.event.code % 256
      ∧ fieldAt (eventRecord en lap overflow) 1 1 = en.count % 256
      ∧ fieldAt (eventRecord en lap overflow) 2 1 = en.event.reasonByte % 256
      ∧ fieldAt (eventRecord en lap overflow) 3 1 = en.event.key.2.2.2.1 % 256
      ∧ fieldAt (eventRecord en lap overflow) 4 2 = en.event.key.2.1 % 65536
      ∧ fieldAt (eventRecord en lap overflow) 6 1 = (bit lap + 2 * bit overflow) % 256
      ∧ fieldAt (eventRecord en lap overflow) 7 1 = en.event.key.2.2.2.2 % 256
      ∧ fieldAt (eventRecord en lap overflow) 8 2 = en.event.key.2.2.1 % 65536
      ∧ fieldAt (eventRecord en lap overflow) 10 1 = en.event.detailByte % 256
      ∧ fieldAt (eventRecord en lap overflow) 11 1 = 0
      ∧ fieldAt (eventRecord en lap overflow) 12 4 = en.event.passField % 2 ^ 32
      ∧ fieldAt (eventRecord en lap overflow) 16 16 = 0 := by
  simp [eventRecord, fieldAt_append_left, fieldAt_append_right, fieldAt_natToBytes]

end Sys2Proof.Machine

open Sys2Proof Sys2Proof.Machine

/-- Settles O14. -/
theorem eventHeadWrite : Obligations.EventHeadWrite := by
  refine ⟨fun h e => ?raised, fun s v hup => ?written, fun en lap overflow => ?layout⟩
  case raised =>
    intro u pending enabled folded g q
    refine ⟨u.hasKey_iff e, fun hno => HostSide.raise_disabled hno, fun hen hkey hfull => ?lost, fun hen hplace => ?entered⟩
    case lost =>
      refine HostSide.raise_lost hen ?_
      rw [EventUnit.accepts, Bool.or_eq_false_iff, decide_eq_false_iff_not]
      exact ⟨Bool.eq_false_iff.mpr (mt (u.hasKey_iff e).mp hkey), Nat.not_lt.mpr hfull⟩
    case entered =>
      have haccepts : u.accepts e = true := by
        rw [EventUnit.accepts, Bool.or_eq_true, decide_eq_true_eq]
        exact hplace.imp (u.hasKey_iff e).mpr id
      have hg : h.setEvents (u.enter e) = g := by rw [EventUnit.enter_accepted haccepts]
      have hraise : h.raise e = g.postEvents g.events.entries.length := by
        rw [HostSide.raise_entered hen haccepts, ← hg]; rfl
      refine ⟨fun hno => ?_, fun hactive htail hinside => ?_, fun hactive hroom hout => ?_⟩
      · rw [hraise]
        exact HostSide.postEvents_none (g := g) (.inr (EvRing.hasRoom_eq_false hno)) _
      · rw [hraise]
        exact HostSide.postEvents_inside _ (g := g) rfl hactive htail hinside (Nat.le_refl _)
      · have hne : g.events.entries ≠ [] := by rw [← hg]; exact EventUnit.enter_ne_nil haccepts
        rw [hraise]
        exact HostSide.postEvents_outside hne (g.engine.eq.hasRoom_iff.mpr ⟨hactive, hroom⟩) hout
          (List.length_pos_iff.mpr hne)
  case written =>
    intro q k g
    have htaken : q.state = .active → q.head < q.size → v.toNat < q.size → k ≤ q.unconsumed →
        exec (.eqHeadWrite v) s = .next (s.setHost (if k = 0 then g else g.postEvents g.events.entries.length)) :=
      fun hactive hhead hv hk => by
        rw [exec_eqHeadWrite hup, HostSide.writeEqHead_taken hactive hv (consumed_eq hhead hv) hk]
        rfl
    refine ⟨fun hstate => ?ignored, fun hactive hhead hv hk hno => ?kept, fun hactive hhead hv h0 hk htail hinside => ?posts,
      fun hactive hhead hv h0 hk hsize hne hout => ?outside, fun hactive hhead hbad => ?faults⟩
    case ignored => rw [exec_eqHeadWrite hup, HostSide.writeEqHead, if_neg hstate]; rfl
    case kept =>
      rw [htaken hactive hhead hv hk]
      rcases hno with h0 | hempty
      · rw [if_pos h0]
      · rw [HostSide.postEvents_none (g := g) (.inl hempty), ite_self]
    case posts =>
      rw [htaken hactive hhead hv hk, if_neg (Nat.ne_of_gt h0)]
      exact congrArg (fun x => Host.Outcome.next (s.setHost x))
        (HostSide.postEvents_inside _ (g := g) rfl hactive htail hinside (Nat.le_refl _))
    case outside =>
      have hroom : g.engine.eq.hasRoom = true :=
        g.engine.eq.hasRoom_iff.mpr ⟨hactive, show q.unconsumed - k < q.size by omega⟩
      rw [htaken hactive hhead hv hk, if_neg (Nat.ne_of_gt h0)]
      exact congrArg (fun x => Host.Outcome.next (s.setHost x))
        (HostSide.postEvents_outside (g := g) hne hroom hout (List.length_pos_iff.mpr hne))
    case faults =>
      have hnot : ¬(v.toNat < q.size ∧ consumed v.toNat q.head q.size ≤ q.unconsumed) := fun ⟨hv, hk⟩ => by
        rw [consumed_eq hhead hv] at hk
        exact hbad.elim (fun h => by omega) (fun h => absurd hk (Nat.not_le_of_lt h))
      rw [exec_eqHeadWrite hup, HostSide.writeEqHead_faulted hactive hnot]
  case layout =>
    intro record at_ holds
    obtain ⟨hlength, hcode, hcount, hreason, hring, hbank, hbits, hid, hrow, hdetail, hzero, hpass, hrest⟩ :=
      eventRecord_fields en lap overflow
    have hflags : (bit lap + 2 * bit overflow) % 256 = (if lap then 1 else 0) + (if overflow then 2 else 0) := by
      cases lap <;> cases overflow <;> rfl
    obtain ⟨hcode', hreason', hring', hbank', hid', hrow', hdetail', hpass'⟩ := en.event.fields_fit
    have hevent : holds en.event.code en.event.reasonByte en.event.key.2.2.2.1 en.event.key.2.1 en.event.key.2.2.2.2
        en.event.key.2.2.1 en.event.detailByte en.event.passField :=
      ⟨hcode.trans (Nat.mod_eq_of_lt hcode'), hreason.trans (Nat.mod_eq_of_lt hreason'),
        hring.trans (Nat.mod_eq_of_lt hring'), hbank.trans (Nat.mod_eq_of_lt hbank'), hid.trans (Nat.mod_eq_of_lt hid'),
        hrow.trans (Nat.mod_eq_of_lt hrow'), hdetail.trans (Nat.mod_eq_of_lt hdetail'),
        hpass.trans (Nat.mod_eq_of_lt hpass')⟩
    refine ⟨hlength, hcount, hbits.trans hflags, hzero, hrest, ?_⟩
    clear_value holds
    cases he : en.event <;> rw [he] at hevent <;> exact hevent

end

section
/-! PROOF. Transfers split into host reads, reads asked for while places are free, and the start of a fetch. -/

namespace Sys2Proof.Machine

/-! ## A transfer split into host reads (R198) -/

/-- The host addresses that reads cover, in order. -/
def readAddresses (zs : List (Nat × Nat × Nat)) : List Nat := zs.flatMap fun z => (List.range z.2.2).map (z.1 + ·)

/-- The bytes that reads ask for. -/
def readTotal (zs : List (Nat × Nat × Nat)) : Nat := (zs.map (·.2.2)).sum

/-- Each read begins at the offset at which the one before it ends, the first at `off`. -/
def OffsetsFrom : Nat → List (Nat × Nat × Nat) → Prop
  | _, [] => True
  | off, z :: zs => z.2.1 = off ∧ OffsetsFrom (off + z.2.2) zs

/-- A read that the host port may send: not empty, at most 512 bytes, within one 4 KiB page. -/
def allowedRead (addr len : Nat) : Prop := 0 < len ∧ len ≤ 512 ∧ addr / 4096 = (addr + len - 1) / 4096

theorem range_map_add (addr m n : Nat) :
    (List.range (m + n)).map (addr + ·) = (List.range m).map (addr + ·) ++ (List.range n).map (addr + m + ·) := by
  rw [List.range_add, List.map_append, List.map_map]
  congr 2
  funext i
  exact (Nat.add_assoc addr m i).symm

theorem OffsetsFrom.append {xs ys : List (Nat × Nat × Nat)} {off : Nat} (hx : OffsetsFrom off xs)
    (hy : OffsetsFrom (off + readTotal xs) ys) : OffsetsFrom off (xs ++ ys) := by
  induction xs generalizing off with
  | nil => exact hy
  | cons z zs ih =>
    refine ⟨hx.1, ih hx.2 ?_⟩
    rwa [readTotal, List.map_cons, List.sum_cons, ← Nat.add_assoc] at hy

/-- A read's offset is the bytes before it. -/
theorem OffsetsFrom.offset_eq {older younger : List (Nat × Nat × Nat)} {z : Nat × Nat × Nat} {off : Nat}
    (h : OffsetsFrom off (older ++ z :: younger)) : z.2.1 = off + readTotal older := by
  induction older generalizing off with
  | nil => exact h.1
  | cons y ys ih =>
    rw [ih h.2, readTotal, readTotal, List.map_cons, List.sum_cons, Nat.add_assoc]

/-- The reads of a transfer cover its bytes in order. -/
theorem splitReads_addresses {fuel addr off len : Nat} (hfuel : len ≤ fuel) :
    readAddresses (splitReads fuel addr off len) = (List.range len).map (addr + ·) := by
  induction fuel generalizing addr off len with
  | zero => rw [Nat.le_zero.mp hfuel]; rfl
  | succ fuel ih =>
    rw [splitReads]
    split
    case isTrue hlen => rw [hlen]; rfl
    case isFalse hlen =>
      dsimp only [Config.maxRead]
      obtain ⟨rest, hrest⟩ := Nat.exists_eq_add_of_le (Nat.min_le_left len (min 512 (4096 - addr % 4096)))
      generalize hn : min len (min 512 (4096 - addr % 4096)) = n at *
      have hrest' : len - n = rest := by omega
      rw [hrest', readAddresses, List.flatMap_cons]
      change _ ++ readAddresses _ = _
      rw [ih (by omega), hrest, range_map_add]

theorem splitReads_total {fuel addr off len : Nat} (hfuel : len ≤ fuel) : readTotal (splitReads fuel addr off len) = len := by
  have h := congrArg List.length (splitReads_addresses (addr := addr) (off := off) hfuel)
  simpa [readAddresses, readTotal, List.length_flatMap] using h

theorem splitReads_offsets (fuel addr off len : Nat) : OffsetsFrom off (splitReads fuel addr off len) := by
  induction fuel generalizing addr off len with
  | zero => trivial
  | succ fuel ih =>
    rw [splitReads]
    split
    · trivial
    · exact ⟨rfl, ih _ _ _⟩

/-- Each read of a transfer lies inside it, and is one that the host port may send. -/
theorem splitReads_allowed {fuel addr off len : Nat} {z : Nat × Nat × Nat} (hz : z ∈ splitReads fuel addr off len) :
    allowedRead z.1 z.2.2 ∧ addr ≤ z.1 ∧ z.1 + z.2.2 ≤ addr + len := by
  induction fuel generalizing addr off len with
  | zero => nomatch hz
  | succ fuel ih =>
    rw [splitReads] at hz
    split at hz
    case isTrue => nomatch hz
    case isFalse hlen =>
      dsimp only [Config.maxRead] at hz
      rcases List.mem_cons.mp hz with rfl | hz
      · dsimp only
        refine ⟨⟨by omega, by omega, ?_⟩, by omega, by omega⟩
        omega
      · obtain ⟨hallowed, hlow, hhigh⟩ := ih hz
        exact ⟨hallowed, by omega, by omega⟩

/-! ## Reads asked for (R197, R198) -/

/-- The places that reads take, with numbers from `n` on. -/
def placesOf (n : Nat) (reads : List (Owner × Nat × Nat)) : List SentRead :=
  reads.mapIdx fun j x => { read := { id := n + j, owner := x.1, addr := x.2.1, len := x.2.2 }, abandoned := false,
                            bytes := List.replicate x.2.2 none }

/-- The messages of reads with numbers from `n` on. -/
def readMsgs (n : Nat) (reads : List (Owner × Nat × Nat)) : List LinkMsg :=
  reads.mapIdx fun j x => .read (n + j) x.2.1 x.2.2

theorem placesOf_cons (n : Nat) (x : Owner × Nat × Nat) (reads : List (Owner × Nat × Nat)) :
    placesOf n (x :: reads) =
      { read := { id := n, owner := x.1, addr := x.2.1, len := x.2.2 }, abandoned := false,
        bytes := List.replicate x.2.2 none } :: placesOf (n + 1) reads := by
  simp only [placesOf, List.mapIdx_cons, Nat.add_zero, Nat.add_assoc, Nat.add_comm 1]

theorem readMsgs_cons (n : Nat) (x : Owner × Nat × Nat) (reads : List (Owner × Nat × Nat)) :
    readMsgs n (x :: reads) = .read n x.2.1 x.2.2 :: readMsgs (n + 1) reads := by
  simp only [readMsgs, List.mapIdx_cons, Nat.add_zero, Nat.add_assoc, Nat.add_comm 1]

@[simp] theorem length_placesOf (n : Nat) (reads : List (Owner × Nat × Nat)) : (placesOf n reads).length = reads.length :=
  List.length_mapIdx

theorem placesOf_append (n : Nat) (xs ys : List (Owner × Nat × Nat)) :
    placesOf n (xs ++ ys) = placesOf n xs ++ placesOf (n + xs.length) ys := by
  simp only [placesOf, List.mapIdx_append, Nat.add_assoc, Nat.add_comm xs.length]

theorem readMsgs_append (n : Nat) (xs ys : List (Owner × Nat × Nat)) :
    readMsgs n (xs ++ ys) = readMsgs n xs ++ readMsgs (n + xs.length) ys := by
  simp only [readMsgs, List.mapIdx_append, Nat.add_assoc, Nat.add_comm xs.length]

/-- The host side after reads have been asked for with a place free for each. -/
def HostSide.asked (h : HostSide) (reads : List (Owner × Nat × Nat)) : HostSide :=
  (h.setPort { h.port with nextRead := h.port.nextRead + reads.length,
                           sent := h.port.sent ++ placesOf h.port.nextRead reads }).setOut
    (h.out ++ readMsgs h.port.nextRead reads)

theorem HostSide.placeRead_window (h : HostSide) (o : Owner) (addr len a n : Nat) :
    (h.placeRead o addr len).port.inWindow a n = h.port.inWindow a n := by
  unfold HostSide.placeRead
  dsimp only
  split <;> rfl

theorem HostSide.placeRead_nextRead (h : HostSide) (o : Owner) (addr len : Nat) :
    (h.placeRead o addr len).port.nextRead = h.port.nextRead + 1 := by
  unfold HostSide.placeRead
  dsimp only
  split <;> rfl

theorem HostSide.placeRead_room {h : HostSide} (hroom : h.port.sent.length < 128) (o : Owner) (addr len : Nat) :
    h.placeRead o addr len = h.asked [(o, addr, len)] := by
  exact if_pos hroom

theorem HostSide.asked_nil (h : HostSide) : h.asked [] = h := by
  simp [HostSide.asked, placesOf, readMsgs, HostSide.setPort, HostSide.setOut]

theorem HostSide.asked_append (h : HostSide) (xs ys : List (Owner × Nat × Nat)) :
    (h.asked xs).asked ys = h.asked (xs ++ ys) := by
  simp [HostSide.asked, placesOf_append, readMsgs_append, HostSide.setPort, HostSide.setOut, Nat.add_assoc]

/-- Reads inside the window are all asked for, each with a number of its own. -/
theorem HostSide.askReads_inside {reads : List (Owner × Nat × Nat)} {h : HostSide}
    (hin : ∀ x ∈ reads, h.port.inWindow x.2.1 x.2.2 = true) :
    (h.askReads reads).2 = true ∧ (h.askReads reads).1.port.nextRead = h.port.nextRead + reads.length := by
  induction reads generalizing h with
  | nil => exact ⟨rfl, rfl⟩
  | cons x reads ih =>
    obtain ⟨o, addr, len⟩ := x
    obtain ⟨hx, hrest⟩ := List.forall_mem_cons.mp hin
    rw [HostSide.askReads, if_pos hx]
    obtain ⟨hok, hnext⟩ := ih (h := h.placeRead o addr len) fun y hy => by rw [HostSide.placeRead_window]; exact hrest y hy
    exact ⟨hok, by rw [hnext, HostSide.placeRead_nextRead, List.length_cons]; omega⟩

/-- With places free for all of them, they are sent in order. -/
theorem HostSide.askReads_room {reads : List (Owner × Nat × Nat)} {h : HostSide}
    (hin : ∀ x ∈ reads, h.port.inWindow x.2.1 x.2.2 = true) (hroom : h.port.sent.length + reads.length ≤ 128) :
    h.askReads reads = (h.asked reads, true) := by
  induction reads generalizing h with
  | nil => rw [HostSide.askReads, HostSide.asked_nil]
  | cons x reads ih =>
    obtain ⟨o, addr, len⟩ := x
    obtain ⟨hx, hrest⟩ := List.forall_mem_cons.mp hin
    rw [List.length_cons] at hroom
    have hroom' : (h.asked [(o, addr, len)]).port.sent.length + reads.length ≤ 128 := by
      simp only [HostSide.asked, HostSide.setOut_port, HostSide.setPort_port, List.length_append, length_placesOf,
        List.length_singleton]
      omega
    rw [HostSide.askReads, if_pos hx, HostSide.placeRead_room (by omega), ih (h := h.asked [(o, addr, len)]) hrest hroom',
      HostSide.asked_append]
    rfl

/-! ## The reads of a fetch (R157) -/

/-- The records of a fetch before the end of the ring. -/
def Rq.firstRun (r : Rq) (n : Nat) : Nat := min n (r.size - r.head)

/-- The split of a fetch: the run up to the end of the ring, and the one from its base on. -/
def Rq.fetchSplit (r : Rq) (n : Nat) : List (Nat × Nat × Nat) :=
  splitReads (64 * r.firstRun n) (r.base + 64 * r.head) 0 (64 * r.firstRun n)
    ++ splitReads (64 * (n - r.firstRun n)) r.base (64 * r.firstRun n) (64 * (n - r.firstRun n))

theorem Rq.fetchReads_eq (r : Rq) (n : Nat) :
    r.fetchReads n = (r.fetchSplit n).map fun x => (Owner.fetch (x.2.1 / 64), x.1, x.2.2) := rfl

theorem Rq.fetchSplit_offsets (r : Rq) (n : Nat) : OffsetsFrom 0 (r.fetchSplit n) :=
  (splitReads_offsets _ _ _ _).append (by rw [splitReads_total (Nat.le_refl _), Nat.zero_add]; exact splitReads_offsets _ _ _ _)

theorem Rq.fetchSplit_addresses {r : Rq} {n : Nat} (hhead : r.head < r.size) (hn : n ≤ r.size) :
    readAddresses (r.fetchSplit n)
      = (List.range (64 * n)).map fun i => r.base + 64 * ((r.head + i / 64) % r.size) + i % 64 := by
  have hsplit : 64 * n = 64 * r.firstRun n + 64 * (n - r.firstRun n) := by unfold Rq.firstRun; omega
  rw [Rq.fetchSplit, readAddresses, List.flatMap_append]
  change readAddresses _ ++ readAddresses _ = _
  rw [splitReads_addresses (Nat.le_refl _), splitReads_addresses (Nat.le_refl _), hsplit, List.range_add, List.map_append,
    List.map_map]
  congr 1
  · refine List.map_congr_left fun i hi => ?_
    have hi := List.mem_range.mp hi
    rw [Nat.mod_eq_of_lt (a := r.head + i / 64) (by unfold Rq.firstRun at hi; omega)]
    omega
  · refine List.map_congr_left fun i hi => ?_
    have hi := List.mem_range.mp hi
    dsimp only [Function.comp]
    have hrun : r.firstRun n = r.size - r.head := by unfold Rq.firstRun at hi ⊢; omega
    have hplace : r.head + (64 * r.firstRun n + i) / 64 = i / 64 + r.size := by omega
    rw [hplace, Nat.add_mod_right, Nat.mod_eq_of_lt (by omega)]
    omega

theorem Rq.fetchReads_addresses (r : Rq) (n : Nat) :
    ((r.fetchReads n).flatMap fun x => (List.range x.2.2).map (x.2.1 + ·)) = readAddresses (r.fetchSplit n) := by
  rw [Rq.fetchReads_eq, List.flatMap_map]
  rfl

theorem Rq.fetchReads_allowed {r : Rq} {n : Nat} {x : Owner × Nat × Nat} (hx : x ∈ r.fetchReads n) :
    allowedRead x.2.1 x.2.2 := by
  rw [Rq.fetchReads_eq] at hx
  obtain ⟨z, hz, rfl⟩ := List.mem_map.mp hx
  rcases List.mem_append.mp hz with hz | hz
  · exact (splitReads_allowed hz).1
  · exact (splitReads_allowed hz).1

theorem Rq.fetchReads_owner {r : Rq} {n : Nat} {older younger : List (Owner × Nat × Nat)} {x : Owner × Nat × Nat}
    (hx : r.fetchReads n = older ++ x :: younger) : x.1 = .fetch ((older.map (·.2.2)).sum / 64) := by
  rw [Rq.fetchReads_eq] at hx
  obtain ⟨before, rest, hzs, rfl, hrest⟩ := List.map_eq_append_iff.mp hx
  obtain ⟨z, after, rfl, rfl, rfl⟩ := List.map_eq_cons_iff.mp hrest
  have hoffset := OffsetsFrom.offset_eq (hzs ▸ r.fetchSplit_offsets n)
  rw [Nat.zero_add] at hoffset
  rw [List.map_map]
  exact congrArg (fun k => Owner.fetch (k / 64)) hoffset

/-! ## The start of a fetch -/

theorem HostSide.startFetch_inside {h : HostSide} {i : RingId} (hnone : h.engine.fetch = none) (hi : h.served = some i)
    (hin : ∀ x ∈ (h.rq i).fetchReads (h.fetchCount i), h.port.inWindow x.2.1 x.2.2 = true) :
    h.startFetch = ((h.reserveFetch i (h.fetchCount i)).askReads ((h.rq i).fetchReads (h.fetchCount i))).1 := by
  obtain ⟨hok, _⟩ := HostSide.askReads_inside (h := h.reserveFetch i (h.fetchCount i)) (by
    rw [HostSide.reserveFetch_port]; exact hin)
  rw [HostSide.startFetch, hnone, hi]
  dsimp only
  split
  · next h' he => rw [he]
  · next h' he => rw [he] at hok; nomatch hok

theorem HostSide.fetchCount_eq (h : HostSide) (i : RingId) : h.fetchCount i =
    let r := h.rq i
    let q := h.cq r.cq
    let pend := (r.tail + r.size - r.head) % r.size
    let credit := q.size - (q.unconsumed + q.reserved)
    if i = 0 then min 1 (min pend credit)
    else min r.burst (min pend (min credit (h.tracker.availableSlots.length - h.tracker.reserved))) := rfl

theorem HostSide.reserveFetch_position (h : HostSide) (i : RingId) (n : Nat) :
    (h.reserveFetch i n).engine.position = if i = 0 then h.engine.position else i := by
  unfold HostSide.reserveFetch
  dsimp only
  split <;> rfl

theorem HostSide.reserveFetch_kept (h : HostSide) (i : RingId) (n : Nat) : (h.reserveFetch i n).engine.eq = h.engine.eq
    ∧ (h.reserveFetch i n).events = h.events ∧ (h.reserveFetch i n).out = h.out := by
  unfold HostSide.reserveFetch
  dsimp only
  split <;> exact ⟨rfl, rfl, rfl⟩

end Sys2Proof.Machine

open Sys2Proof Sys2Proof.Machine

/-- Settles O17. -/
theorem fetchStartReserves : Obligations.FetchStartReserves := by
  refine ⟨?start, fun r n hhead hn => ⟨?addresses, fun x hx => Rq.fetchReads_allowed hx,
    fun older x younger hx => Rq.fetchReads_owner hx⟩⟩
  case addresses => rw [Rq.fetchReads_addresses, Rq.fetchSplit_addresses hhead hn]
  case start =>
    intro s i hnone hi r q pend credit n hin
    have hn : s.host.fetchCount i = n := s.host.fetchCount_eq i
    have hport := s.host.reserveFetch_port i n
    have hin' : ∀ x ∈ r.fetchReads n, (s.host.reserveFetch i n).port.inWindow x.2.1 x.2.2 = true := by rw [hport]; exact hin
    have hstart := HostSide.startFetch_inside hnone hi (hn ▸ hin)
    rw [hn] at hstart
    obtain ⟨o, p, hasked⟩ := HostSide.askReads_eq (r.fetchReads n) (s.host.reserveFetch i n)
    have hnext := (HostSide.askReads_inside hin').2
    obtain ⟨heq, hevents, hout⟩ := s.host.reserveFetch_kept i n
    refine ⟨s.setHost s.host.startFetch, rfl, ?_⟩
    rw [State.setHost_host, hstart]
    refine ⟨?_, ?_, ?_, ?_, ?_, ?_, ?_, ?_, ?_, ?_, rfl, ?_, fun hroom => ?_⟩
    case refine_11 => rw [hnext, hport]
    case refine_12 =>
      rw [HostSide.askReads_room hin' (by rw [hport]; exact hroom)]
      simp only [HostSide.asked, HostSide.setOut_port, HostSide.setPort_port, HostSide.setOut_out, hport, hout]
      exact ⟨rfl, rfl⟩
    all_goals rw [hasked]
    · exact (s.host.cq_reserveFetch i n _).trans (if_pos rfl)
    · exact (s.host.rq_reserveFetch i n i).trans (if_pos rfl)
    · exact s.host.reserveFetch_fetch i n
    · exact s.host.reserveFetch_position i n
    · refine (s.host.reserveFetch_tracker i n).trans ?_
      split <;> rfl
    · exact fun m hm => (s.host.rq_reserveFetch i n m).trans (if_neg (Ne.symm hm))
    · exact fun m hm => (s.host.cq_reserveFetch i n m).trans (if_neg (Ne.symm hm))
    · exact heq
    · exact s.host.reserveFetch_config i n
    · exact hevents

end

section
/-! PROOF. Fields of records read from host memory, the parts of an answer, and the record of the configuration ring. -/

namespace Sys2Proof.Machine

/-! ## Bytes and fields (R203) -/

theorem bytesToNat_lt (bytes : List Byte) : bytesToNat bytes < 256 ^ bytes.length := by
  induction bytes with
  | nil => exact Nat.one_pos
  | cons b rest ih =>
    have hb : b.toNat < 256 := b.isLt
    rw [bytesToNat, List.length_cons, Nat.pow_succ']
    omega

theorem bytesToNat_drop (bytes : List Byte) (off : Nat) : bytesToNat (bytes.drop off) = bytesToNat bytes / 256 ^ off := by
  induction off generalizing bytes with
  | zero => simp
  | succ off ih =>
    cases bytes with
    | nil => simp [bytesToNat]
    | cons b rest =>
      have hb : b.toNat < 256 := b.isLt
      rw [List.drop_succ_cons, ih, bytesToNat, Nat.pow_succ', ← Nat.div_div_eq_div_mul]
      congr 1
      omega

theorem bytesToNat_take (bytes : List Byte) (n : Nat) : bytesToNat (bytes.take n) = bytesToNat bytes % 256 ^ n := by
  induction n generalizing bytes with
  | zero => simp [bytesToNat, Nat.mod_one]
  | succ n ih =>
    cases bytes with
    | nil => simp [bytesToNat]
    | cons b rest =>
      have hb : b.toNat < 256 := b.isLt
      have hlow : (b.toNat + 256 * bytesToNat rest) % 256 = b.toNat := by omega
      have hhigh : (b.toNat + 256 * bytesToNat rest) / 256 = bytesToNat rest := by omega
      rw [List.take_succ_cons, bytesToNat, bytesToNat, ih, Nat.pow_succ', Nat.mod_mul (a := 256), hlow, hhigh]

theorem natToBytes_bytesToNat (bytes : List Byte) : natToBytes bytes.length (bytesToNat bytes) = bytes := by
  induction bytes with
  | nil => rfl
  | cons b rest ih =>
    have hb : b.toNat < 256 := b.isLt
    have hhead : (b.toNat + 256 * bytesToNat rest) % 2 ^ 8 = b.toNat := by omega
    have htail : (b.toNat + 256 * bytesToNat rest) / 256 = bytesToNat rest := by omega
    rw [List.length_cons, natToBytes, bytesToNat, htail, ih]
    congr 1
    exact BitVec.eq_of_toNat_eq (by rw [BitVec.toNat_ofNat, hhead])

theorem toNat_blockOfBytes {bytes : List Byte} (h : bytes.length = 64) : (blockOfBytes bytes).toNat = bytesToNat bytes := by
  have hlt := bytesToNat_lt bytes
  rw [h, ← Nat.pow_mul 2 8 64] at hlt
  exact Nat.mod_eq_of_lt hlt

/-- A field of a record is the number in its bytes. -/
theorem field_blockOfBytes {bytes : List Byte} (h : bytes.length = 64) (off n : Nat) :
    field (blockOfBytes bytes) off n = fieldAt bytes off n := by
  rw [field, toNat_blockOfBytes h, fieldAt, bytesToNat_take, bytesToNat_drop, Nat.shiftRight_eq_div_pow, Nat.pow_mul,
    Nat.pow_mul]

theorem field_code (r : Block) : field r 0 1 = r.toNat % 256 := by simp [field]

theorem isSome_ite_some {α : Type} (c : Prop) [Decidable c] (x : α) (y : Option α) :
    (if c then some x else y).isSome = true ↔ c ∨ y.isSome = true := by
  split
  case isTrue h => simp [h]
  case isFalse h => simp [h]

theorem dataKindOf?_isSome (code : Nat) : (dataKindOf? code).isSome = true ↔ 0x01 ≤ code ∧ code ≤ 0x05 := by
  simp only [dataKindOf?, isSome_ite_some, Option.isSome_none, Bool.false_eq_true, or_false]
  omega

theorem dataReqOf?_isSome (r : Block) : (dataReqOf? r).isSome = true ↔ 0x01 ≤ r.toNat % 256 ∧ r.toNat % 256 ≤ 0x05 := by
  rw [dataReqOf?, Option.isSome_map, dataKindOf?_isSome, field_code]

theorem configCmdOf?_isSome (r : Block) :
    (configCmdOf? r).isSome = true ↔ 0x40 ≤ r.toNat % 256 ∧ r.toNat % 256 ≤ 0x4A := by
  simp only [configCmdOf?, field_code, isSome_ite_some, Option.isSome_none, Bool.false_eq_true, or_false]
  omega

theorem listEntries_getElem? {n i : Nat} (hi : i < n) (bytes : List Byte) : (listEntries n bytes)[i]? =
    some { host := fieldAt bytes (16 * i) 8, len := fieldAt bytes (16 * i + 8) 4 } := by
  induction n generalizing i bytes with
  | zero => omega
  | succ n ih =>
    cases i with
    | zero => rfl
    | succ i =>
      rw [listEntries, List.getElem?_cons_succ, ih (by omega)]
      simp only [fieldAt, List.drop_drop]
      congr! 5 <;> omega

theorem length_listEntries (n : Nat) (bytes : List Byte) : (listEntries n bytes).length = n := by
  induction n generalizing bytes with
  | zero => rfl
  | succ n ih => rw [listEntries, List.length_cons, ih]

theorem mapEntries_getElem? {n i : Nat} (hi : i < n) (bytes : List Byte) : (mapEntries n bytes)[i]? =
    some { bank := fieldAt bytes (8 * i) 2, spare := fieldAt bytes (8 * i + 2) 1, state := fieldAt bytes (8 * i + 3) 1,
           row := fieldAt bytes (8 * i + 4) 4 } := by
  induction n generalizing i bytes with
  | zero => omega
  | succ n ih =>
    cases i with
    | zero => rfl
    | succ i =>
      rw [mapEntries, List.getElem?_cons_succ, ih (by omega)]
      simp only [fieldAt, List.drop_drop]
      congr! 5 <;> omega

theorem length_mapEntries (n : Nat) (bytes : List Byte) : (mapEntries n bytes).length = n := by
  induction n generalizing bytes with
  | zero => rfl
  | succ n ih => rw [mapEntries, List.length_cons, ih]

/-! ## Parts of an answer (R198) -/

theorem fillBytes_skip (x : Option Byte) (old : List (Option Byte)) (off : Nat) (bytes : List Byte) :
    fillBytes (x :: old) (off + 1) bytes = x :: fillBytes old off bytes := by
  cases bytes with
  | nil => cases old <;> rfl
  | cons b bytes => rfl

/-- A part replaces the bytes it brings and leaves the others. -/
theorem fillBytes_getElem? (old : List (Option Byte)) (off : Nat) (bytes : List Byte) {i : Nat} (hi : i < old.length) :
    (fillBytes old off bytes)[i]? = if off ≤ i ∧ i < off + bytes.length then some (bytes[i - off]?) else old[i]? := by
  induction old generalizing off bytes i with
  | nil => nomatch hi
  | cons x old ih =>
    cases bytes with
    | nil =>
      rw [if_neg fun h => absurd (Nat.lt_of_lt_of_le h.2 h.1) (Nat.lt_irrefl i)]
      simp [fillBytes]
    | cons b bytes =>
      cases off with
      | zero =>
        cases i with
        | zero => simp [fillBytes]
        | succ i =>
          rw [fillBytes, List.getElem?_cons_succ, ih 0 bytes (Nat.lt_of_succ_lt_succ hi)]
          simp only [Nat.zero_le, true_and, Nat.zero_add, List.length_cons, Nat.sub_zero, Nat.add_lt_add_iff_right,
            List.getElem?_cons_succ]
      | succ off =>
        cases i with
        | zero => simp [fillBytes]
        | succ i =>
          rw [fillBytes_skip, List.getElem?_cons_succ, ih off (b :: bytes) (Nat.lt_of_succ_lt_succ hi)]
          simp only [Nat.add_le_add_iff_right, List.length_cons, Nat.add_right_comm off 1, Nat.reduceSubDiff,
            Nat.add_lt_add_iff_right, List.getElem?_cons_succ]

theorem length_fillBytes (old : List (Option Byte)) (off : Nat) (bytes : List Byte) :
    (fillBytes old off bytes).length = old.length := by
  induction old generalizing off bytes with
  | nil => cases bytes <;> rfl
  | cons x old ih =>
    cases bytes with
    | nil => rfl
    | cons b bytes =>
      cases off with
      | zero => rw [fillBytes, List.length_cons, List.length_cons, ih]
      | succ off => rw [fillBytes_skip, List.length_cons, List.length_cons, ih]

/-- An answer in one part brings every byte. -/
theorem fillBytes_whole {old : List (Option Byte)} {bytes : List Byte} (h : bytes.length = old.length) :
    fillBytes old 0 bytes = bytes.map some := by
  induction bytes generalizing old with
  | nil => rw [List.eq_nil_of_length_eq_zero h.symm]; rfl
  | cons b bytes ih =>
    cases old with
    | nil => nomatch h
    | cons x old => rw [fillBytes, List.map_cons, ih (Nat.succ.inj h)]

theorem allBytes_map_some (bytes : List Byte) : allBytes (bytes.map some) = some bytes := by
  induction bytes with
  | nil => rfl
  | cons b bytes ih => rw [List.map_cons, allBytes, ih]; rfl

theorem allBytes_of_missing {xs : List (Option Byte)} {i : Nat} (h : xs[i]? = some none) : allBytes xs = none := by
  induction xs generalizing i with
  | nil => nomatch h
  | cons x xs ih =>
    cases x with
    | none => rfl
    | some b =>
      cases i with
      | zero => simp at h
      | succ i => rw [allBytes, ih h]; rfl

theorem HostPort.sentRead?_id {p : HostPort} {id : Nat} {r : SentRead} (h : p.sentRead? id = some r) : r.read.id = id := by
  simpa using List.find?_some h

theorem exec_hostReadAnswer {s : State} {id : Nat} {r : SentRead} (h : s.host.port.sentRead? id = some r) (off : Nat)
    (bytes : List Byte) : exec (.hostReadAnswer id (.data off bytes)) s = .next (s.answerData r off bytes) := by
  change execHostReadAnswer _ _ _ = _
  unfold execHostReadAnswer; rw [h]

/-- The two ways in which a host read fails: a completion error, and the expiry of its timer. -/
theorem exec_readFails {s : State} {id : Nat} {r : SentRead} {c : Instr} (h : s.host.port.sentRead? id = some r)
    (hc : c = .hostReadTimeout id ∨ c = .hostReadAnswer id .completionError) :
    exec c s = .next (s.setHost (s.host.failRead r)) := by
  rcases hc with rfl | rfl
  · change execHostReadTimeout _ _ = _
    unfold execHostReadTimeout; rw [h]
  · change execHostReadAnswer _ _ _ = _
    unfold execHostReadAnswer; rw [h]

/-- The whole answer, in one part, to a read whose requester has not abandoned it. -/
theorem State.answerData_whole {s : State} {r : SentRead} {bytes : List Byte} (hr : r.abandoned = false)
    (hlength : bytes.length = r.bytes.length) : s.answerData r 0 bytes =
      let s1 := (s.setHost (s.host.endRead r.read.id)).readDone r.read.owner bytes
      s1.setHost (s1.host.freePlace r.read.id) := by
  rw [State.answerData, fillBytes_whole hlength, allBytes_map_some]
  dsimp only
  rw [hr]
  rfl

/-- With no read waiting, the place of an ended read is free. -/
theorem HostSide.freePlace_none {h : HostSide} (hnone : h.port.waiting = []) (id : Nat) : h.freePlace id =
    h.setPort { h.port with sent := h.port.sent.filter fun r => r.read.id != id } := by
  rw [HostSide.freePlace, HostSide.setPort_port, hnone]
  rfl

@[simp] theorem HostSide.rq_handOver (h : HostSide) (c : Completion) (n : RingId) : (h.handOver c).rq n = h.rq n := by
  unfold HostSide.handOver
  dsimp only
  split
  · split
    · rfl
    · rw [HostSide.rq_raise]; rfl
  · rfl
  · rfl

/-! ## Changes that the hand-over of records to the host does not see -/

/-- `u` changes nothing that events and completions read or write. -/
structure HostSide.Unseen (u : HostSide → HostSide) : Prop where
  out (h : HostSide) : (u h).out = h.out
  events (h : HostSide) : (u h).events = h.events
  eq (h : HostSide) : (u h).engine.eq = h.engine.eq
  cq (h : HostSide) (n : RingId) : (u h).cq n = h.cq n
  ringCq (h : HostSide) (n : RingId) : ((u h).rq n).cq = (h.rq n).cq
  ringHead (h : HostSide) (n : RingId) : ((u h).rq n).head = (h.rq n).head
  window (h : HostSide) (a n : Nat) : (u h).port.inWindow a n = h.port.inWindow a n
  setOut (h : HostSide) (x : List LinkMsg) : u (h.setOut x) = (u h).setOut x
  setEq (h : HostSide) (x : EvRing) : u (h.setEq x) = (u h).setEq x
  setEvents (h : HostSide) (x : EventUnit) : u (h.setEvents x) = (u h).setEvents x
  setCq (h : HostSide) (n : RingId) (x : Cq) : u (h.setCq n x) = (u h).setCq n x

theorem HostSide.Unseen.postEvents {u : HostSide → HostSide} (hu : HostSide.Unseen u) (k : Nat) (h : HostSide) :
    (u h).postEvents k = u (h.postEvents k) := by
  induction k generalizing h with
  | zero => rfl
  | succ k ih =>
    simp only [HostSide.postEvents, hu.events, hu.eq, hu.window, hu.out, ← hu.setOut, ← hu.setEq, ← hu.setEvents]
    cases h.events.entries with
    | nil => rfl
    | cons en rest =>
      dsimp only
      split
      · split
        · exact ih _
        · rfl
      · rfl

theorem HostSide.Unseen.raise {u : HostSide → HostSide} (hu : HostSide.Unseen u) (h : HostSide) (e : Event) :
    (u h).raise e = u (h.raise e) := by
  simp only [HostSide.raise, hu.events, ← hu.setEvents]
  split
  · split
    · exact hu.postEvents _ _
    · rfl
  · rfl

theorem HostSide.Unseen.handOver {u : HostSide → HostSide} (hu : HostSide.Unseen u) (h : HostSide) (c : Completion) :
    (u h).handOver c = u (h.handOver c) := by
  simp only [HostSide.handOver, hu.cq, hu.ringCq, hu.ringHead, hu.window, hu.out, ← hu.setOut, ← hu.setCq]
  split
  · split
    · rfl
    · exact hu.raise _ _
  · rfl
  · rfl

theorem HostSide.setFetch_unseen (f : Option Fetch) : HostSide.Unseen fun h => h.setFetch f :=
  ⟨fun _ => rfl, fun _ => rfl, fun _ => rfl, fun _ _ => rfl, fun _ _ => rfl, fun _ _ => rfl, fun _ _ _ => rfl,
    fun _ _ => rfl, fun _ _ => rfl, fun _ _ => rfl, fun _ _ _ => rfl⟩

/-- The mark of a fetch in flight. -/
theorem HostSide.setInFlight_unseen (n : RingId) (x : Bool) :
    HostSide.Unseen fun h => h.setRq n { h.rq n with inFlight := x } where
  out _ := rfl
  events _ := rfl
  eq _ := rfl
  cq _ _ := rfl
  ringCq h m := by
    rw [h.rq_setRq]
    split
    case isTrue he => rw [he]
    case isFalse => rfl
  ringHead h m := by
    rw [h.rq_setRq]
    split
    case isTrue he => rw [he]
    case isFalse => rfl
  window _ _ _ := rfl
  setOut _ _ := rfl
  setEq _ _ := rfl
  setEvents _ _ := rfl
  setCq _ _ _ := rfl

theorem HostSide.setSent_unseen (xs : List SentRead) : HostSide.Unseen fun h => h.setPort { h.port with sent := xs } :=
  ⟨fun _ => rfl, fun _ => rfl, fun _ => rfl, fun _ _ => rfl, fun _ _ => rfl, fun _ _ => rfl, fun _ _ _ => rfl,
    fun _ _ => rfl, fun _ _ => rfl, fun _ _ => rfl, fun _ _ _ => rfl⟩

theorem HostSide.clearFetch_unseen (n : RingId) : HostSide.Unseen fun h => h.clearFetch n where
  out _ := rfl
  events _ := rfl
  eq _ := rfl
  cq _ _ := rfl
  ringCq := (HostSide.setInFlight_unseen n false).ringCq
  ringHead := (HostSide.setInFlight_unseen n false).ringHead
  window _ _ _ := rfl
  setOut _ _ := rfl
  setEq _ _ := rfl
  setEvents _ _ := rfl
  setCq _ _ _ := rfl

/-! ## Records handed to intake (R151, R158) -/

/-- The head of the fetch's ring advances, and the fetch goes on to the records `rest`. -/
def HostSide.passHead (h : HostSide) (f : Fetch) (rest : List (Option Block)) : HostSide :=
  (h.setRq f.ring { h.rq f.ring with head := ((h.rq f.ring).head + 1) % (h.rq f.ring).size }).setFetch
    (some { f with handed := f.handed + 1, recs := rest })

theorem HostSide.handRecords_done {h : HostSide} {f : Fetch} (hf : h.engine.fetch = some f) (hrecs : f.recs = [])
    (ps : PoolState) (k : Nat) : h.handRecords ps (k + 1) = (h.clearFetch f.ring).settle := by
  rw [HostSide.handRecords, hf]
  dsimp only
  rw [hrecs]

theorem HostSide.handRecords_waits {h : HostSide} {f : Fetch} {rest : List (Option Block)} (hf : h.engine.fetch = some f)
    (hrecs : f.recs = none :: rest) (ps : PoolState) (k : Nat) : h.handRecords ps (k + 1) = h := by
  rw [HostSide.handRecords, hf]
  dsimp only
  rw [hrecs]

theorem HostSide.handRecords_command {h : HostSide} {f : Fetch} {r : Block} {rest : List (Option Block)}
    (hf : h.engine.fetch = some f) (hrecs : f.recs = some r :: rest) (hring : f.ring = 0) (ps : PoolState) (k : Nat) :
    h.handRecords ps (k + 1) = ((h.passHead f rest).takeCommand r).settle.handRecords ps k := by
  rw [HostSide.handRecords, hf]
  dsimp only
  rw [hrecs]
  dsimp only
  rw [if_pos hring]
  rfl

theorem HostSide.handRecords_record {h : HostSide} {f : Fetch} {r : Block} {rest : List (Option Block)}
    (hf : h.engine.fetch = some f) (hrecs : f.recs = some r :: rest) (hring : f.ring ≠ 0) (ps : PoolState) (k : Nat) :
    h.handRecords ps (k + 1) = ((h.passHead f rest).takeRecord ps f.ring r).settle.handRecords ps k := by
  rw [HostSide.handRecords, hf]
  dsimp only
  rw [hrecs]
  dsimp only
  rw [if_neg hring]
  rfl

theorem HostSide.fetchData_of_fetch {h : HostSide} {f : Fetch} (hf : h.engine.fetch = some f) (ps : PoolState)
    (first : Nat) (bytes : List Byte) : h.fetchData ps first bytes =
      (h.setFetch (some { f with recs := fillRecords f.recs (first - f.handed) (recordsOf (bytes.length / 64) bytes) })).handRecords
        ps (f.recs.length + 1) := by
  rw [HostSide.fetchData, hf]
  dsimp only
  rw [fillRecords_length]

theorem HostSide.takeCommand_quiescent {h : HostSide} (q : h.quiescent) (r : Block) : (h.takeCommand r).quiescent := by
  unfold HostSide.takeCommand
  split
  · exact HostSide.quiescent_of_eq q (by rw [HostSide.handOver_tracker]) (HostSide.handOver_config _ _)
  · exact ⟨q.1, fun _ _ _ => nofun⟩

theorem HostSide.takeCommand_port (h : HostSide) (r : Block) : (h.takeCommand r).port = h.port := by
  unfold HostSide.takeCommand
  split
  · exact HostSide.handOver_port _ _
  · rfl

theorem HostSide.setRq_setRq (h : HostSide) (n : RingId) (a b : Rq) : (h.setRq n a).setRq n b = h.setRq n b := by
  simp [HostSide.setRq, HostSide.setEngine]

/-- The last record leaves the fetch, and the fetch ends. -/
theorem HostSide.passHead_clearFetch (h : HostSide) (f : Fetch) (rest : List (Option Block)) :
    (h.passHead f rest).clearFetch f.ring = (h.setRq f.ring { h.rq f.ring with
      head := ((h.rq f.ring).head + 1) % (h.rq f.ring).size, inFlight := false }).setFetch none := by
  have hrq : (h.passHead f rest).rq f.ring =
      { h.rq f.ring with head := ((h.rq f.ring).head + 1) % (h.rq f.ring).size } := HostSide.rq_setRq_self _ _ _
  have hset := h.setRq_setRq f.ring
    { h.rq f.ring with head := ((h.rq f.ring).head + 1) % (h.rq f.ring).size }
    { h.rq f.ring with head := ((h.rq f.ring).head + 1) % (h.rq f.ring).size, inFlight := false }
  rw [HostSide.clearFetch, hrq, ← hset]
  rfl

/-- The one record of a fetch of RQ0 is taken, and the fetch ends. -/
theorem HostSide.fetchData_command {h : HostSide} {bytes : List Byte} (q : h.quiescent)
    (hf : h.engine.fetch = some { ring := 0, handed := 0, recs := [none] }) (hlength : bytes.length = 64) (ps : PoolState) :
    h.fetchData ps 0 bytes = ((h.passHead { ring := 0, handed := 0, recs := [] } []).takeCommand (blockOfBytes bytes)).clearFetch
      0 := by
  have hrecs : fillRecords [none] 0 (recordsOf (bytes.length / 64) bytes) = [some (blockOfBytes bytes)] := by
    rw [hlength]
    simp only [Nat.reduceDiv, recordsOf, fillRecords, List.take_of_length_le (Nat.le_of_eq hlength)]
  have hquiet : ((h.passHead { ring := 0, handed := 0, recs := [] } []).takeCommand (blockOfBytes bytes)).quiescent :=
    HostSide.takeCommand_quiescent (h := h.passHead { ring := 0, handed := 0, recs := [] } []) q _
  rw [HostSide.fetchData_of_fetch hf]
  dsimp only
  rw [hrecs, HostSide.handRecords_command (h := HostSide.setFetch h _) rfl rfl rfl]
  change HostSide.handRecords ps 1
    ((h.passHead { ring := 0, handed := 0, recs := [] } []).takeCommand (blockOfBytes bytes)).settle = _
  rw [HostSide.settle_quiescent hquiet, HostSide.handRecords_done (f := { ring := 0, handed := 1, recs := [] })
    (by rw [HostSide.takeCommand_fetch]; rfl) rfl]
  exact HostSide.settle_quiescent hquiet

end Sys2Proof.Machine

open Sys2Proof Sys2Proof.Machine

/-- Settles O19. -/
theorem answerPartIsKept : Obligations.AnswerPartIsKept := by
  intro s id off bytes
  refine ⟨fun r hr hmissing => ?kept, fun hnone part => ?discarded⟩
  case kept =>
    obtain ⟨i, hi, hout⟩ := hmissing
    refine ⟨fillBytes r.bytes off bytes, length_fillBytes _ _ _, fun j hj => fillBytes_getElem? _ _ _ hj, ?_⟩
    have hlt : i < r.bytes.length := (List.getElem?_eq_some_iff.mp hi).1
    have hnone : (fillBytes r.bytes off bytes)[i]? = some none := by
      rw [fillBytes_getElem? _ _ _ hlt, if_neg (by omega), hi]
    rw [exec_hostReadAnswer hr, State.answerData, allBytes_of_missing hnone]
    dsimp only
    rw [HostPort.sentRead?_id hr]
  case discarded =>
    constructor
    · change execHostReadAnswer _ _ _ = _
      unfold execHostReadAnswer; rw [hnone]
    · change execHostReadTimeout _ _ = _
      unfold execHostReadTimeout; rw [hnone]

/-- Settles O20. -/
theorem abandonedReadFreesItsPlace : Obligations.AbandonedReadFreesItsPlace := by
  intro s id r c hr habandoned hwaiting hc
  have hid := HostPort.sentRead?_id hr
  have hfailed : s.host.failRead r = s.host.setPort { s.host.port with
      sent := s.host.port.sent.filter fun x => x.read.id != id } := by
    rw [HostSide.failRead, if_pos habandoned, hid, HostSide.freePlace_none hwaiting]
  rcases hc with hc | hc | ⟨bytes, rfl, hlength⟩
  · rw [exec_readFails hr (.inl hc), hfailed]
  · rw [exec_readFails hr (.inr hc), hfailed]
  · rw [exec_hostReadAnswer hr, State.answerData, fillBytes_whole hlength, allBytes_map_some]
    dsimp only
    rw [if_pos habandoned, hid, HostSide.freePlace_none hwaiting]

/-- Settles O22. -/
theorem recordFields : Obligations.RecordFields := by
  refine ⟨fun bytes off n hlength _ => field_blockOfBytes hlength off n,
    fun n v => ⟨length_natToBytes n v, bytesToNat_natToBytes n v⟩, natToBytes_bytesToNat,
    fun r => ⟨dataReqOf?_isSome r, configCmdOf?_isSome r⟩, fun bytes hlength => ?records, fun bytes n i hi => ?entries⟩
  case entries =>
    exact ⟨length_listEntries n bytes, length_mapEntries n bytes, listEntries_getElem? hi bytes, mapEntries_getElem? hi bytes⟩
  case records =>
    intro r f data command
    have hf : ∀ off n, field r off n = f off n := field_blockOfBytes hlength
    have hdata : ∀ {code kind}, dataKindOf? code = some kind → f 0 1 = code → data kind := fun hkind hcode => by
      change dataReqOf? r = _
      rw [dataReqOf?]
      simp only [hf, hcode, hkind, Option.map_some]
    have hcommand : configCmdOf? r = configCmdOf? r := rfl
    conv at hcommand => rhs; unfold configCmdOf?
    simp only [hf] at hcommand
    refine ⟨?_, hdata rfl, hdata rfl, hdata rfl, hdata rfl, hdata rfl, ?_, ?_, ?_, ?_, ?_, ?_, ?_, ?_, ?_, ?_, ?_⟩
    · rw [recordId, hf]
    all_goals
      intro hcode
      change configCmdOf? r = _
      rw [hcommand, hcode]
      rfl

/-- Settles O21. -/
theorem configurationRecordIsTaken : Obligations.ConfigurationRecordIsTaken := by
  intro s r bytes hsent hwaiting howner hlength hfetch hidle hquiet record q h
  have hread : s.host.port.sentRead? r.id = some { read := r, abandoned := false, bytes := List.replicate 64 none } := by
    rw [HostPort.sentRead?, hsent]
    simp
  -- the host side after the record has been taken and the fetch has ended; the read still holds its place
  let k := (((s.host.endRead r.id).passHead { ring := 0, handed := 0, recs := [] } []).takeCommand record).clearFetch 0
  have hkport : k.port = (s.host.endRead r.id).port := HostSide.takeCommand_port _ _
  have hexec : exec (.hostReadAnswer r.id (.data 0 bytes)) s =
      .next (s.setHost (k.setPort { k.port with sent := [] })) := by
    have hdata : (s.host.endRead r.id).fetchData s.pool.control.state 0 bytes = k :=
      HostSide.fetchData_command (h := s.host.endRead r.id) hquiet hfetch hlength _
    have hfree : k.freePlace r.id = k.setPort { k.port with sent := [] } := by
      rw [HostSide.freePlace_none (by rw [hkport]; exact hwaiting), hkport]
      simp [HostSide.endRead, hsent]
    rw [exec_hostReadAnswer hread, State.answerData_whole rfl (by rw [hlength, List.length_replicate])]
    dsimp only
    rw [howner, State.readDone]
    change Host.Outcome.next (s.setHost (((s.host.endRead r.id).fetchData s.pool.control.state 0 bytes).freePlace r.id)) = _
    rw [hdata, hfree]
  have hpassed : ((s.host.endRead r.id).passHead { ring := 0, handed := 0, recs := [] } []).clearFetch 0
      = h.setPort (s.host.endRead r.id).port := HostSide.passHead_clearFetch _ { ring := 0, handed := 0, recs := [] } []
  constructor
  case left =>
    intro cmd hcmd
    have hk : k = (h.setConfig (.executing (recordId record) cmd none)).setPort (s.host.endRead r.id).port := by
      change HostSide.clearFetch (HostSide.takeCommand _ record) 0 = _
      rw [HostSide.takeCommand, hcmd]
      exact congrArg (fun x : HostSide => x.setConfig (.executing (recordId record) cmd none)) hpassed
    rw [hexec, hk]
    rfl
  case right =>
    intro hnone
    have hk : k.setPort { k.port with sent := [] } = h.handOver (refusal (recordId record) 0 .badKind) := by
      have hclear := (HostSide.clearFetch_unseen 0).handOver
        ((s.host.endRead r.id).passHead { ring := 0, handed := 0, recs := [] } []) (refusal (recordId record) 0 .badKind)
      have hsent := (HostSide.setSent_unseen []).handOver (h.setPort (s.host.endRead r.id).port)
        (refusal (recordId record) 0 .badKind)
      dsimp only at hclear hsent
      rw [hpassed] at hclear
      change HostSide.setPort (HostSide.clearFetch (HostSide.takeCommand _ record) 0)
        { (HostSide.clearFetch (HostSide.takeCommand _ record) 0).port with sent := [] } = _
      rw [HostSide.takeCommand, hnone]
      dsimp only
      rw [← hclear, ← hsent]
      rfl
    refine ⟨_, hexec, ?_⟩
    rw [State.setHost_host, hk, HostSide.handOver_config, HostSide.handOver_fetch, HostSide.rq_handOver, HostSide.handOver_tracker]
    exact ⟨hidle, rfl, congrArg Rq.head (HostSide.rq_setRq_self _ _ _), rfl, rfl, rfl⟩

end

section
/-! PROOF. Rules of the tracker: a slot changed, reads of a slot asked for with places free, and what is left when the slots
that have ended have completed. -/

namespace Sys2Proof.Machine

/-! ## A slot changed -/

theorem HostSide.slot?_modifySlot {h : HostSide} {n : SlotNo} {f : Slot → Slot} (hf : ∀ x, (f x).num = x.num) (m : SlotNo) :
    (h.modifySlot n f).tracker.slot? m = (h.tracker.slot? m).map fun x => if m = n then f x else x := by
  change List.find? _ (h.tracker.slots.map _) = (List.find? _ h.tracker.slots).map _
  rw [List.find?_map]
  have hcomp : ((fun s : Slot => s.num == m) ∘ fun s => if s.num = n then f s else s) = fun s => s.num == m := by
    funext s
    dsimp only [Function.comp]
    split
    · rw [hf]
    · rfl
  rw [hcomp]
  cases hfind : h.tracker.slots.find? fun s => s.num == m with
  | none => rfl
  | some x =>
    have hnum : x.num = m := by simpa using List.find?_some hfind
    simp [hnum]

theorem HostSide.modifySlot_modifySlot (h : HostSide) (n : SlotNo) {f : Slot → Slot} (hf : ∀ x, (f x).num = x.num)
    (g : Slot → Slot) : (h.modifySlot n f).modifySlot n g = h.modifySlot n fun x => g (f x) := by
  refine congrArg (fun xs => h.setTracker { h.tracker with slots := xs }) ?_
  change (h.tracker.slots.map _).map _ = _
  rw [List.map_map]
  refine List.map_congr_left fun x _ => ?_
  by_cases hx : x.num = n
  · simp [hx, hf]
  · simp [hx]

theorem HostSide.modifySlot_congr {h : HostSide} {n : SlotNo} {f g : Slot → Slot}
    (hfg : ∀ x ∈ h.tracker.slots, x.num = n → f x = g x) : h.modifySlot n f = h.modifySlot n g := by
  refine congrArg (fun xs => h.setTracker { h.tracker with slots := xs }) (List.map_congr_left fun x hx => ?_)
  split
  case isTrue hn => exact hfg x hx hn
  case isFalse => rfl

theorem HostSide.modifySlot_id {h : HostSide} {n : SlotNo} {f : Slot → Slot}
    (hf : ∀ x ∈ h.tracker.slots, x.num = n → f x = x) : h.modifySlot n f = h := by
  have hmap : (h.tracker.slots.map fun s => if s.num = n then f s else s) = h.tracker.slots := by
    conv => rhs; rw [← List.map_id h.tracker.slots]
    refine List.map_congr_left fun x hx => ?_
    split
    case isTrue hn => exact hf x hx hn
    case isFalse => rfl
  rw [HostSide.modifySlot, hmap]
  rfl

/-- The slot occupied last is the only one with its number. -/
theorem HostSide.modifySlot_last {h : HostSide} {xs : List Slot} {x : Slot} (hslots : h.tracker.slots = xs ++ [x])
    (hxs : ∀ y ∈ xs, y.num ≠ x.num) (f : Slot → Slot) :
    h.modifySlot x.num f = h.setTracker { h.tracker with slots := xs ++ [f x] } := by
  refine congrArg (fun ys => h.setTracker { h.tracker with slots := ys }) ?_
  rw [hslots, List.map_append, List.map_singleton, if_pos rfl]
  congr 1
  conv => rhs; rw [← List.map_id xs]
  exact List.map_congr_left fun y hy => if_neg (hxs y hy)

theorem HostSide.asked_slot? (h : HostSide) (reads : List (Owner × Nat × Nat)) (n : SlotNo) :
    (h.asked reads).tracker.slot? n = h.tracker.slot? n := rfl

theorem HostSide.asked_modifySlot (h : HostSide) (reads : List (Owner × Nat × Nat)) (n : SlotNo) (f : Slot → Slot) :
    (h.asked reads).modifySlot n f = (h.modifySlot n f).asked reads := rfl

/-! ## The bytes of a WRITE asked for (R136) -/

/-- The slot after it has asked for one further granule. -/
def Slot.askedOne (s : Slot) : Slot :=
  { s with staging := s.staging ++ [{ gran := s.askNext, pieces := [] }], askNext := s.askNext + 1 }

/-- The slot after it has asked for `m` further granules. -/
def Slot.staged (s : Slot) (m : Nat) : Slot :=
  { s with staging := s.staging ++ (List.range m).map fun i => { gran := s.askNext + i, pieces := [] },
           askNext := s.askNext + m }

/-- The reads of `m` further granules. -/
def Slot.stageReads (s : Slot) (m : Nat) : List (Owner × Nat × Nat) :=
  (List.range m).flatMap fun i => s.dataReads (s.askNext + i)

theorem Slot.staged_zero (s : Slot) : s.staged 0 = s := by simp [Slot.staged]

theorem Slot.staged_succ (s : Slot) (m : Nat) : s.staged (m + 1) = s.askedOne.staged m := by
  simp [Slot.staged, Slot.askedOne, List.range_succ_eq_map, Function.comp_def, Nat.add_assoc, Nat.add_comm 1]

theorem Slot.stageReads_succ (s : Slot) (m : Nat) : s.stageReads (m + 1) =
    s.dataReads s.askNext ++ s.askedOne.stageReads m := by
  rw [Slot.stageReads, List.range_succ_eq_map, List.flatMap_cons, List.flatMap_map]
  refine congrArg _ (List.flatMap_congr fun i _ => ?_)
  rw [Nat.succ_eq_add_one, Nat.add_comm i 1, ← Nat.add_assoc]
  rfl

theorem HostSide.stage_succ {h : HostSide} {n : SlotNo} {x : Slot} (hx : h.tracker.slot? n = some x) (k : Nat) :
    h.stage (k + 1) n = if x.wantsData then
        match (h.modifySlot n Slot.askedOne).askReads (x.dataReads x.askNext) with
        | (h', true) => h'.stage k n
        | (h', false) => h'.failSlot n
      else h := by
  rw [HostSide.stage, hx]
  rfl

/-- With its reads inside the window and places free, an ISSUING WRITE asks for as many granules as staging places and range
allow. -/
theorem HostSide.stage_room (k : Nat) {h : HostSide} {n : SlotNo} {x : Slot} (hx : h.tracker.slot? n = some x)
    (hissuing : x.state = .issuing) (hwrite : x.req.kind = .write) (hplaces : x.staging.length + k ≤ 16)
    (hin : ∀ z ∈ x.stageReads (min k (x.req.count - x.askNext)), h.port.inWindow z.2.1 z.2.2 = true)
    (hroom : h.port.sent.length + (x.stageReads (min k (x.req.count - x.askNext))).length ≤ 128) :
    h.stage k n = (h.modifySlot n fun s => s.staged (min k (x.req.count - x.askNext))).asked
      (x.stageReads (min k (x.req.count - x.askNext))) := by
  induction k generalizing h x with
  | zero =>
    rw [Nat.zero_min, HostSide.stage, HostSide.modifySlot_id fun y _ _ => y.staged_zero]
    exact h.asked_nil.symm
  | succ k ih =>
    rw [HostSide.stage_succ hx]
    by_cases hmore : x.askNext < x.req.count
    case neg =>
      have hwants : x.wantsData = false := by simp [Slot.wantsData, hmore]
      have hzero : min (k + 1) (x.req.count - x.askNext) = 0 := by omega
      rw [hwants, hzero, HostSide.modifySlot_id fun y _ _ => y.staged_zero]
      exact h.asked_nil.symm
    case pos =>
      have hspace : x.staging.length < 16 := by omega
      have hwants : x.wantsData = true := by
        simp only [Slot.wantsData, hissuing, hwrite, hmore, hspace, Config.stagingPlaces, beq_self_eq_true, Bool.and_true,
          decide_true]
      have hsucc : min (k + 1) (x.req.count - x.askNext) = min k (x.askedOne.req.count - x.askedOne.askNext) + 1 := by
        change _ = min k (x.req.count - (x.askNext + 1)) + 1
        omega
      rw [hsucc, Slot.stageReads_succ] at hin hroom
      rw [List.length_append, ← Nat.add_assoc] at hroom
      have hasked : (h.modifySlot n Slot.askedOne).askReads (x.dataReads x.askNext)
          = ((h.modifySlot n Slot.askedOne).asked (x.dataReads x.askNext), true) :=
        HostSide.askReads_room (h := h.modifySlot n Slot.askedOne) (fun z hz => hin z (List.mem_append_left _ hz))
          (Nat.le_trans (Nat.le_add_right _ _) hroom)
      have hnext : ((h.modifySlot n Slot.askedOne).asked (x.dataReads x.askNext)).tracker.slot? n = some x.askedOne := by
        rw [HostSide.asked_slot?, HostSide.slot?_modifySlot (f := Slot.askedOne) fun _ => rfl, hx]
        simp
      have hroom' : ((h.modifySlot n Slot.askedOne).asked (x.dataReads x.askNext)).port.sent.length
          + (x.askedOne.stageReads (min k (x.askedOne.req.count - x.askedOne.askNext))).length ≤ 128 := by
        simp only [HostSide.asked, HostSide.setOut_port, HostSide.setPort_port, List.length_append, length_placesOf]
        exact hroom
      have hplaces' : x.askedOne.staging.length + k ≤ 16 := by
        simp only [Slot.askedOne, List.length_append, List.length_singleton]
        omega
      rw [if_pos hwants, hsucc, Slot.stageReads_succ]
      rw [hasked]
      dsimp only
      rw [ih hnext hissuing hwrite hplaces' (fun z hz => hin z (List.mem_append_right _ hz)) hroom',
        HostSide.asked_modifySlot, HostSide.modifySlot_modifySlot (f := Slot.askedOne) _ _ fun _ => rfl,
        HostSide.asked_append]
      exact congrArg (fun g : HostSide => g.asked _) (HostSide.modifySlot_congr fun y _ _ => (y.staged_succ _).symm)

/-! ## Reads outstanding (R138, R198) -/

theorem HostSide.placeRead_outstanding {h : HostSide} {o : Owner} {f : Owner → Bool} (hf : f o = false) (addr len : Nat) :
    (h.placeRead o addr len).port.outstanding f = h.port.outstanding f := by
  unfold HostSide.placeRead
  dsimp only
  split <;> simp [HostPort.outstanding, hf]

theorem HostSide.askReads_outstanding {h : HostSide} {reads : List (Owner × Nat × Nat)} {f : Owner → Bool}
    (hf : ∀ z ∈ reads, f z.1 = false) : (h.askReads reads).1.port.outstanding f = h.port.outstanding f := by
  induction reads generalizing h with
  | nil => rfl
  | cons z reads ih =>
    unfold HostSide.askReads
    split
    · rw [ih fun y hy => hf y (List.mem_cons_of_mem _ hy)]
      exact HostSide.placeRead_outstanding (hf z List.mem_cons_self) _ _
    · rfl

/-- Abandoned reads are outstanding no longer. -/
theorem HostSide.abandonReads_outstanding_self (h : HostSide) (f : Owner → Bool) :
    (h.abandonReads f).port.outstanding f = false := by
  simp only [HostSide.abandonReads, HostSide.setPort_port, HostPort.outstanding, Bool.or_eq_false_iff, List.any_map,
    List.any_filter]
  constructor
  · rw [List.any_eq_false]
    intro r _
    dsimp only [Function.comp]
    split
    · simp
    · simp [*]
  · rw [List.any_eq_false]
    intro r _
    simp

theorem HostSide.abandonReads_outstanding {h : HostSide} {g : Owner → Bool} (hg : h.port.outstanding g = false)
    (f : Owner → Bool) : (h.abandonReads f).port.outstanding g = false := by
  simp only [HostPort.outstanding, Bool.or_eq_false_iff, List.any_eq_false] at hg
  obtain ⟨hsent, hwaiting⟩ := hg
  simp only [HostSide.abandonReads, HostSide.setPort_port, HostPort.outstanding, Bool.or_eq_false_iff, List.any_map,
    List.any_filter, List.any_eq_false]
  refine ⟨fun r hr => ?_, fun r hr => ?_⟩
  · dsimp only [Function.comp]
    split
    · simp
    · exact hsent r hr
  · have := hwaiting r hr
    simp only [Bool.not_eq_true] at this
    simp [this]

theorem Slot.dataReads_owner {s : Slot} {g : Nat} {z : Owner × Nat × Nat} (hz : z ∈ s.dataReads g) (m : SlotNo) :
    Owner.ofSlot m z.1 = (s.num == m) := by
  obtain ⟨_, _, rfl⟩ := List.mem_map.mp hz
  rfl

theorem Slot.listReads_owner {s : Slot} {z : Owner × Nat × Nat} (hz : z ∈ s.listReads) (m : SlotNo) :
    Owner.ofSlot m z.1 = (s.num == m) := by
  obtain ⟨_, _, rfl⟩ := List.mem_map.mp hz
  rfl

/-! ## What is left when ended slots have completed -/

/-- An AWAITING slot whose operations have all come back has no host read outstanding: nothing keeps it from completing. -/
def HostSide.noneStuck (h : HostSide) : Prop :=
  ∀ x ∈ h.tracker.slots, x.state = .awaiting → x.ended = x.issued → h.port.outstanding (Owner.ofSlot x.num) = false

/-- No slot with number `n` is AWAITING. -/
def HostSide.notAwaiting (h : HostSide) (n : SlotNo) : Prop := ∀ x ∈ h.tracker.slots, x.num = n → x.state ≠ .awaiting

/-- `k` has the slot numbers, the configuration unit and the fetch of `h`. -/
structure HostSide.SameSlots (h k : HostSide) : Prop where
  nums : k.tracker.slots.map Slot.num = h.tracker.slots.map Slot.num
  config : k.config = h.config

theorem HostSide.SameSlots.refl (h : HostSide) : h.SameSlots h := ⟨rfl, rfl⟩

theorem HostSide.SameSlots.trans {h k l : HostSide} (a : h.SameSlots k) (b : k.SameSlots l) : h.SameSlots l :=
  ⟨b.nums.trans a.nums, b.config.trans a.config⟩

theorem HostSide.SameSlots.length {h k : HostSide} (a : h.SameSlots k) :
    k.tracker.slots.length = h.tracker.slots.length := by
  simpa using congrArg List.length a.nums

theorem HostSide.modifySlot_sameSlots (h : HostSide) (n : SlotNo) {f : Slot → Slot} (hf : ∀ x, (f x).num = x.num) :
    h.SameSlots (h.modifySlot n f) := by
  refine ⟨?_, rfl⟩
  change (h.tracker.slots.map _).map Slot.num = _
  rw [List.map_map]
  refine List.map_congr_left fun x _ => ?_
  dsimp only [Function.comp]
  split
  · exact hf x
  · rfl

theorem HostSide.askReads_sameSlots (h : HostSide) (reads : List (Owner × Nat × Nat)) :
    h.SameSlots (h.askReads reads).1 := by
  obtain ⟨_, _, e⟩ := HostSide.askReads_eq reads h
  rw [e]
  exact ⟨rfl, rfl⟩

theorem HostSide.failSlot_sameSlots (h : HostSide) (n : SlotNo) : h.SameSlots (h.failSlot n) := by
  unfold HostSide.failSlot
  split
  · exact .refl h
  · split
    · exact .refl h
    · exact HostSide.SameSlots.trans (k := h.abandonReads (Owner.ofSlot n)) ⟨rfl, rfl⟩
        (HostSide.modifySlot_sameSlots _ n (f := fun s => { s.stop with hostAccess := true }) fun _ => rfl)

theorem HostSide.notAwaiting_modifySlot {h : HostSide} {n : SlotNo} {f : Slot → Slot}
    (hstate : ∀ x ∈ h.tracker.slots, x.num = n → (f x).state ≠ .awaiting) : (h.modifySlot n f).notAwaiting n := by
  intro y hy hn
  obtain ⟨x, hx, rfl⟩ := List.mem_map.mp hy
  split at hn
  case isTrue he => rw [if_pos he]; exact hstate x hx he
  case isFalse he => exact absurd hn he

theorem HostSide.noneStuck_modifySlot {h : HostSide} (hs : h.noneStuck) {n : SlotNo} {f : Slot → Slot}
    (hstate : ∀ x ∈ h.tracker.slots, x.num = n → (f x).state ≠ .awaiting) : (h.modifySlot n f).noneStuck := by
  intro y hy hawait hended
  obtain ⟨x, hx, rfl⟩ := List.mem_map.mp hy
  split at hawait
  case isTrue he => exact absurd hawait (hstate x hx he)
  case isFalse he =>
    rw [if_neg he] at hended ⊢
    exact hs x hx hawait hended

/-- Asking for reads of slot `n`, which is not AWAITING. -/
theorem HostSide.askReads_steady {h : HostSide} {n : SlotNo} (hs : h.noneStuck) (hn : h.notAwaiting n)
    {reads : List (Owner × Nat × Nat)} (howner : ∀ z ∈ reads, ∀ m, Owner.ofSlot m z.1 = (n == m)) :
    (h.askReads reads).1.noneStuck ∧ (h.askReads reads).1.notAwaiting n := by
  obtain ⟨o, p, e⟩ := HostSide.askReads_eq reads h
  have hslots : (h.askReads reads).1.tracker.slots = h.tracker.slots := by rw [e]; rfl
  refine ⟨fun x hx hawait hended => ?_, fun x hx => hn x (hslots ▸ hx)⟩
  rw [hslots] at hx
  have hne : n ≠ x.num := fun he => hn x hx he.symm hawait
  rw [HostSide.askReads_outstanding fun z hz => by rw [howner z hz, beq_eq_false_iff_ne]; exact hne]
  exact hs x hx hawait hended

theorem HostSide.failSlot_noneStuck {h : HostSide} (hs : h.noneStuck) (n : SlotNo) : (h.failSlot n).noneStuck := by
  unfold HostSide.failSlot
  split
  · exact hs
  · split
    · exact hs
    · intro y hy hawait hended
      obtain ⟨x, hx, rfl⟩ := List.mem_map.mp hy
      change (h.abandonReads (Owner.ofSlot n)).port.outstanding _ = false
      split at hawait
      case isTrue he =>
        rw [if_pos he]
        change (h.abandonReads (Owner.ofSlot n)).port.outstanding (Owner.ofSlot x.num) = false
        rw [he]
        exact h.abandonReads_outstanding_self _
      case isFalse he =>
        rw [if_neg he] at hended ⊢
        exact HostSide.abandonReads_outstanding (hs x hx hawait hended) _

theorem HostSide.stage_steady (k : Nat) {n : SlotNo} {h : HostSide} (hs : h.noneStuck) (hn : h.notAwaiting n) :
    (h.stage k n).noneStuck ∧ h.SameSlots (h.stage k n) := by
  induction k generalizing h with
  | zero => exact ⟨hs, .refl h⟩
  | succ k ih =>
    cases hx : h.tracker.slot? n with
    | none => rw [HostSide.stage, hx]; exact ⟨hs, .refl h⟩
    | some x =>
      rw [HostSide.stage_succ hx]
      split
      case isFalse => exact ⟨hs, .refl h⟩
      case isTrue =>
        obtain ⟨_, hnum⟩ := Tracker.mem_of_slot? hx
        have howner : ∀ z ∈ x.dataReads x.askNext, ∀ m, Owner.ofSlot m z.1 = (n == m) := fun z hz m => by
          rw [Slot.dataReads_owner hz, hnum]
        have hstaged := h.modifySlot_sameSlots n (f := Slot.askedOne) fun _ => rfl
        have hsteady := HostSide.askReads_steady (h := h.modifySlot n Slot.askedOne)
          (HostSide.noneStuck_modifySlot hs fun y hy => hn y hy)
          (HostSide.notAwaiting_modifySlot fun y hy => hn y hy) howner
        have hasked := hstaged.trans (HostSide.askReads_sameSlots _ (x.dataReads x.askNext))
        split
        case h_1 h' he =>
          rw [he] at hsteady hasked
          obtain ⟨hnone, hsame⟩ := ih hsteady.1 hsteady.2
          exact ⟨hnone, hasked.trans hsame⟩
        case h_2 h' he =>
          rw [he] at hsteady hasked
          exact ⟨HostSide.failSlot_noneStuck hsteady.1 n, hasked.trans (h'.failSlot_sameSlots n)⟩

theorem HostSide.beginWork_steady {h : HostSide} (hs : h.noneStuck) (n : SlotNo) :
    (h.beginWork n).noneStuck ∧ h.SameSlots (h.beginWork n) := by
  unfold HostSide.beginWork
  split
  case h_1 => exact ⟨hs, .refl h⟩
  case h_2 x hx =>
    split
    case isTrue =>
      obtain ⟨_, hnum⟩ := Tracker.mem_of_slot? hx
      have hsteady := HostSide.askReads_steady (n := n) (reads := x.listReads)
        (h := h.modifySlot n fun s => { s with state := .loadingList })
        (HostSide.noneStuck_modifySlot hs fun _ _ _ => nofun)
        (HostSide.notAwaiting_modifySlot fun _ _ _ => nofun)
        (fun z hz m => by rw [Slot.listReads_owner hz, hnum])
      have hasked := (h.modifySlot_sameSlots n (f := fun s => { s with state := .loadingList }) fun _ => rfl).trans
        (HostSide.askReads_sameSlots _ x.listReads)
      split
      case h_1 h' he => rw [he] at hsteady hasked; exact ⟨hsteady.1, hasked⟩
      case h_2 h' he =>
        rw [he] at hsteady hasked
        exact ⟨HostSide.failSlot_noneStuck hsteady.1 n, hasked.trans (h'.failSlot_sameSlots n)⟩
    case isFalse =>
      obtain ⟨hnone, hsame⟩ := HostSide.stage_steady Config.stagingPlaces (n := n)
        (h := h.modifySlot n fun s => { s with state := .issuing })
        (HostSide.noneStuck_modifySlot hs fun _ _ _ => nofun)
        (HostSide.notAwaiting_modifySlot fun _ _ _ => nofun)
      exact ⟨hnone, (h.modifySlot_sameSlots n (f := fun s => { s with state := .issuing }) fun _ => rfl).trans hsame⟩

theorem HostSide.releaseFence_steady {h : HostSide} (hs : h.noneStuck) (ring : RingId) :
    (h.releaseFence ring).noneStuck ∧ h.SameSlots (h.releaseFence ring) := by
  unfold HostSide.releaseFence
  split
  · split
    · exact HostSide.beginWork_steady hs _
    · exact ⟨hs, .refl h⟩
  · exact ⟨hs, .refl h⟩

/-- A completion leaves one slot fewer. -/
theorem HostSide.completeSlot_steady {h : HostSide} (hs : h.noneStuck) {x : Slot} (hx : x ∈ h.tracker.slots) :
    (h.completeSlot x).noneStuck ∧ (h.completeSlot x).tracker.slots.length < h.tracker.slots.length
      ∧ (h.completeSlot x).config = h.config := by
  let g := (h.modifySlot x.num fun y => { y with state := .completing }).handOver x.completion
  have hslots : g.tracker = (h.modifySlot x.num fun y => { y with state := .completing }).tracker :=
    HostSide.handOver_tracker _ _
  have hport : g.port = h.port := HostSide.handOver_port _ _
  have hg : g.noneStuck := fun y hy hawait hended => by
    rw [hport]
    rw [hslots] at hy
    exact HostSide.noneStuck_modifySlot (f := fun y => { y with state := .completing }) hs (fun _ _ _ => nofun) y hy hawait hended
  have hleft : (g.setTracker { g.tracker with slots := g.tracker.slots.filter fun y => y.num != x.num }).noneStuck :=
    fun y hy => hg y (List.mem_filter.mp hy).1
  obtain ⟨hnone, hsame⟩ := HostSide.releaseFence_steady hleft x.ring
  refine ⟨hnone, ?_, hsame.config.trans (HostSide.handOver_config _ _)⟩
  rw [HostSide.completeSlot, HostSide.freeSlot, hsame.length]
  have hlength : g.tracker.slots.length = h.tracker.slots.length := by rw [hslots]; exact List.length_map _
  rw [← hlength]
  refine List.length_filter_lt_length_iff_exists.mpr ⟨{ x with state := .completing }, ?_, by simp⟩
  rw [hslots]
  exact List.mem_map.mpr ⟨x, hx, if_pos rfl⟩

/-- When the slots that have ended have completed, none is left that is ready to. -/
theorem HostSide.settleSlots_quiet (k : Nat) {h : HostSide} (hs : h.noneStuck) (hk : h.tracker.slots.length ≤ k) :
    (∀ x ∈ (h.settleSlots k).tracker.slots, x.state ≠ .completing ∧ (x.state = .awaiting → x.ended ≠ x.issued))
      ∧ (h.settleSlots k).config = h.config := by
  induction k generalizing h with
  | zero =>
    have hnone := List.length_eq_zero_iff.mp (Nat.le_zero.mp hk)
    exact ⟨fun x hx => absurd (hnone ▸ hx : x ∈ []) List.not_mem_nil, rfl⟩
  | succ k ih =>
    rw [HostSide.settleSlots]
    split
    case h_1 hnone =>
      refine ⟨fun x hx => ?_, rfl⟩
      have hready := List.find?_eq_none.mp hnone x hx
      refine ⟨fun hc => hready (by simp [HostSide.slotReady, hc]), fun ha he => hready ?_⟩
      simp [HostSide.slotReady, ha, he, hs x hx ha he]
    case h_2 x hfind =>
      obtain ⟨hnone, hlt, hconfig⟩ := HostSide.completeSlot_steady hs (List.mem_of_find?_eq_some hfind)
      obtain ⟨hquiet, hsame⟩ := ih hnone (by omega)
      exact ⟨hquiet, hsame.trans hconfig⟩

theorem HostSide.settle_quiet {h : HostSide} (hs : h.noneStuck) (hconfig : ∀ id ring k, h.config ≠ .drainWait id ring k) :
    h.settle.quiescent ∧ h.settle.config = h.config := by
  obtain ⟨hquiet, hsame⟩ := HostSide.settleSlots_quiet h.tracker.slots.length hs (Nat.le_refl _)
  have hnone : h.settle = h.settleSlots h.tracker.slots.length := by
    rw [HostSide.settle, HostSide.endDrain]
    split
    case h_1 hwait => exact absurd (hsame.symm.trans hwait) (hconfig _ _ _)
    · rfl
    · rfl
  rw [hnone]
  exact ⟨⟨hquiet, fun id ring k => by rw [hsame]; exact hconfig id ring k⟩, hsame⟩

theorem HostSide.noneStuck_of_quiescent {h : HostSide} (q : h.quiescent) : h.noneStuck :=
  fun x hx hawait hended => absurd hended ((q.1 x hx).2 hawait)

end Sys2Proof.Machine

end

section
/-! PROOF. Records of a data ring: their hand-over to intake in ring order, and the slot that a record occupies. -/

namespace Sys2Proof.Machine

/-! ## A slot begins its work (R128, R132, R136) -/

theorem DataReq.needsList_iff (q : DataReq) : q.needsList = true ↔ q.useList = true ∧ (q.kind = .read ∨ q.kind = .write) := by
  simp [DataReq.needsList]

theorem HostSide.beginWork_list {h : HostSide} {n : SlotNo} {x : Slot} (hx : h.tracker.slot? n = some x)
    (hlist : x.req.needsList = true) (hin : ∀ z ∈ x.listReads, h.port.inWindow z.2.1 z.2.2 = true)
    (hroom : h.port.sent.length + x.listReads.length ≤ 128) :
    h.beginWork n = (h.modifySlot n fun s => { s with state := .loadingList }).asked x.listReads := by
  rw [HostSide.beginWork, hx]
  dsimp only
  rw [if_pos hlist, HostSide.askReads_room (h := h.modifySlot n fun s => { s with state := .loadingList }) hin hroom]

theorem HostSide.beginWork_issue {h : HostSide} {n : SlotNo} {x : Slot} (hx : h.tracker.slot? n = some x)
    (hlist : x.req.needsList = false) : h.beginWork n = h.beginIssue n := by
  rw [HostSide.beginWork, hx]
  dsimp only
  rw [hlist]
  rfl

/-- A slot that is no WRITE asks for no data. -/
theorem HostSide.beginIssue_other {h : HostSide} {n : SlotNo} {x : Slot} (hx : h.tracker.slot? n = some x)
    (hwrite : x.req.kind ≠ .write) : h.beginIssue n = h.modifySlot n fun s => { s with state := .issuing } := by
  have hx' : (h.modifySlot n fun s => { s with state := .issuing }).tracker.slot? n = some { x with state := .issuing } := by
    rw [HostSide.slot?_modifySlot (f := fun s => { s with state := .issuing }) fun _ => rfl, hx]
    simp
  have hwants : Slot.wantsData { x with state := .issuing } = false := by
    simp [Slot.wantsData, hwrite]
  rw [HostSide.beginIssue]
  change HostSide.stage 16 n _ = _
  rw [HostSide.stage_succ hx', hwants]
  rfl

/-- A WRITE asks for the bytes of its first 16 granules. -/
theorem HostSide.beginIssue_write {h : HostSide} {n : SlotNo} {x : Slot} (hx : h.tracker.slot? n = some x)
    (hwrite : x.req.kind = .write) (hstaging : x.staging = []) (hask : x.askNext = 0)
    (hin : ∀ z ∈ (List.range (min 16 x.req.count)).flatMap x.dataReads, h.port.inWindow z.2.1 z.2.2 = true)
    (hroom : h.port.sent.length + ((List.range (min 16 x.req.count)).flatMap x.dataReads).length ≤ 128) :
    h.beginIssue n = (h.modifySlot n fun s => Slot.staged { s with state := .issuing } (min 16 x.req.count)).asked
      ((List.range (min 16 x.req.count)).flatMap x.dataReads) := by
  have hreads : Slot.stageReads { x with state := .issuing } (min 16 x.req.count)
      = (List.range (min 16 x.req.count)).flatMap x.dataReads := by
    refine List.flatMap_congr fun i _ => ?_
    change x.dataReads (x.askNext + i) = _
    rw [hask, Nat.zero_add]
  have hcount : min 16 (x.req.count - x.askNext) = min 16 x.req.count := by rw [hask, Nat.sub_zero]
  have hx' : (h.modifySlot n fun s => { s with state := .issuing }).tracker.slot? n = some { x with state := .issuing } := by
    rw [HostSide.slot?_modifySlot (f := fun s => { s with state := .issuing }) fun _ => rfl, hx]
    simp
  have hstage := HostSide.stage_room 16 hx' rfl hwrite (by rw [hstaging]; exact Nat.le_refl 16)
    (by rw [hcount, hreads]; exact hin) (by rw [hcount, hreads]; exact hroom)
  rw [HostSide.beginIssue]
  refine hstage.trans ?_
  rw [hcount, hreads, HostSide.modifySlot_modifySlot (f := fun s => { s with state := .issuing }) _ _ fun _ => rfl]

/-! ## Intake of a record (R109, R128) -/

/-- The number of the slot that a record occupies: the lowest that is available. -/
theorem Tracker.availableSlots_eq_cons {t : Tracker} {n : SlotNo} (hfree : t.slot? n = none) (hback : t.outstanding[n] = 0)
    (hlow : ∀ m, m < n → t.slot? m ≠ none ∨ t.outstanding[m] ≠ 0) : ∃ rest, t.availableSlots = n :: rest := by
  have hfind : (List.finRange 256).find? t.available = some n := by
    rw [find?_eq_some_iff_of_ranked (rank := Fin.val) (List.pairwise_lt_finRange 256)]
    refine ⟨List.mem_finRange n, by simp [Tracker.available, hfree, hback], fun m _ hm => ?_⟩
    refine Nat.le_of_not_lt fun hlt => ?_
    rw [Tracker.available, Bool.and_eq_true, Option.isNone_iff_eq_none, beq_iff_eq] at hm
    exact (hlow m hlt).elim (fun h => h hm.1) fun h => h hm.2
  have hhead : t.availableSlots.head? = some n := by rw [Tracker.availableSlots, List.head?_filter, hfind]
  cases hslots : t.availableSlots with
  | nil => rw [hslots] at hhead; nomatch hhead
  | cons m rest => rw [hslots] at hhead; cases hhead; exact ⟨rest, rfl⟩

theorem HostSide.takeRecord_badKind {h : HostSide} {r : Block} (hr : dataReqOf? r = none) (ps : PoolState) (ring : RingId) :
    h.takeRecord ps ring r = (h.setTracker { h.tracker with reserved := h.tracker.reserved - 1 }).handOver
      (refusal (recordId r) ring .badKind) := by
  rw [HostSide.takeRecord, hr]

theorem HostSide.takeRecord_refused {h : HostSide} {r : Block} {q : DataReq} (hr : dataReqOf? r = some q) {ps : PoolState}
    {ring : RingId} {st : Status} (hst : q.refusal? ps h.tracker ring = some st) :
    h.takeRecord ps ring r = (h.setTracker { h.tracker with reserved := h.tracker.reserved - 1 }).handOver
      (refusal q.id ring st) := by
  rw [HostSide.takeRecord, hr]
  dsimp only
  rw [hst]

/-- The tracker after a record has passed intake and occupied slot `x`. -/
def Tracker.occupied (t : Tracker) (x : Slot) : Tracker :=
  { t with slots := t.slots ++ [x], tags := t.tags.set x.num x.tag, reserved := t.reserved - 1 }

/-- A request waits behind an earlier slot of its ring (R130). -/
def DataReq.fencedAt (q : DataReq) (t : Tracker) (ring : RingId) : Prop := q.fence = true ∧ ∃ x ∈ t.slots, x.ring = ring

theorem HostSide.takeRecord_passes {h : HostSide} {r : Block} {q : DataReq} (hr : dataReqOf? r = some q) {ps : PoolState}
    {ring : RingId} (hpass : q.refusal? ps h.tracker ring = none) {n : SlotNo} {rest : List SlotNo}
    (hn : h.tracker.availableSlots = n :: rest) :
    (q.fencedAt h.tracker ring → h.takeRecord ps ring r = h.setTracker
      (h.tracker.occupied (Slot.fresh n (h.tracker.tags[n] + 1) ring q .fenced)))
    ∧ (¬q.fencedAt h.tracker ring → h.takeRecord ps ring r = (h.setTracker
      (h.tracker.occupied (Slot.fresh n (h.tracker.tags[n] + 1) ring q .issuing))).beginWork n) := by
  have htaken : h.takeRecord ps ring r =
      (h.setTracker { h.tracker with reserved := h.tracker.reserved - 1 }).occupy ring q := by
    rw [HostSide.takeRecord, hr]
    dsimp only
    rw [hpass]
  have havailable : Tracker.availableSlots { h.tracker with reserved := h.tracker.reserved - 1 } = n :: rest := hn
  rw [htaken, HostSide.occupy, HostSide.setTracker_tracker, havailable]
  dsimp only
  have hfenced : (q.fence && h.tracker.slots.any fun s => s.ring == ring) = true ↔ q.fencedAt h.tracker ring := by
    simp [DataReq.fencedAt]
  constructor
  · intro hf
    rw [hfenced.mpr hf]
    rfl
  · intro hf
    rw [Bool.eq_false_iff.mpr fun h => hf (hfenced.mp h)]
    rfl

theorem Tracker.slot?_occupied {t : Tracker} {x : Slot} (hfree : t.slot? x.num = none) :
    (t.occupied x).slot? x.num = some x := by
  change (t.slots ++ [x]).find? _ = some x
  rw [List.find?_append, show t.slots.find? (fun s => s.num == x.num) = none from hfree]
  simp

/-- The slot occupied last is changed. -/
theorem HostSide.modifySlot_occupied {h : HostSide} {x : Slot} (hfree : h.tracker.slot? x.num = none) {f : Slot → Slot}
    (hf : (f x).num = x.num ∧ (f x).tag = x.tag) :
    (h.setTracker (h.tracker.occupied x)).modifySlot x.num f = h.setTracker (h.tracker.occupied (f x)) := by
  rw [HostSide.modifySlot_last (h := h.setTracker (h.tracker.occupied x)) rfl ((h.tracker.slot?_eq_none_iff _).mp hfree) f]
  have htags : (h.tracker.occupied (f x)).tags = (h.tracker.occupied x).tags := by
    change h.tracker.tags.set (f x).num (f x).tag = _
    simp only [hf]
    rfl
  exact congrArg (fun tags => h.setTracker { h.tracker.occupied x with slots := h.tracker.slots ++ [f x], tags := tags })
    htags.symm

/-- What an unfenced record's slot leaves of the host side, by its kind. -/
theorem HostSide.beginWork_occupied {h : HostSide} {x : Slot} (hfree : h.tracker.slot? x.num = none)
    (hissuing : x.state = .issuing) (hstaging : x.staging = []) (hask : x.askNext = 0) :
    let k := h.setTracker (h.tracker.occupied x)
    let reads := (List.range (min 16 x.req.count)).flatMap x.dataReads
    (x.req.needsList = false → x.req.kind ≠ .write → k.beginWork x.num = k)
    ∧ (x.req.needsList = true → (∀ z ∈ x.listReads, h.port.inWindow z.2.1 z.2.2 = true) →
        h.port.sent.length + x.listReads.length ≤ 128 → k.beginWork x.num =
          (h.setTracker (h.tracker.occupied { x with state := .loadingList })).asked x.listReads)
    ∧ (x.req.needsList = false → x.req.kind = .write → (∀ z ∈ reads, h.port.inWindow z.2.1 z.2.2 = true) →
        h.port.sent.length + reads.length ≤ 128 → k.beginWork x.num =
          (h.setTracker (h.tracker.occupied { x with
            staging := (List.range (min 16 x.req.count)).map fun g => { gran := g, pieces := [] }
            askNext := min 16 x.req.count })).asked reads) := by
  intro k reads
  have hx : k.tracker.slot? x.num = some x := Tracker.slot?_occupied hfree
  have hkept : ({ x with state := .issuing } : Slot) = x := by rw [← hissuing]
  refine ⟨fun hlist hwrite => ?_, fun hlist hin hroom => ?_, fun hlist hwrite hin hroom => ?_⟩
  · rw [HostSide.beginWork_issue hx hlist, HostSide.beginIssue_other hx hwrite,
      HostSide.modifySlot_occupied (f := fun s => { s with state := .issuing }) hfree ⟨rfl, rfl⟩, hkept]
  · rw [HostSide.beginWork_list hx hlist hin hroom,
      HostSide.modifySlot_occupied (f := fun s => { s with state := .loadingList }) hfree ⟨rfl, rfl⟩]
  · rw [HostSide.beginWork_issue hx hlist, HostSide.beginIssue_write hx hwrite hstaging hask hin hroom,
      HostSide.modifySlot_occupied (f := fun s => Slot.staged { s with state := .issuing } (min 16 x.req.count)) hfree
        ⟨rfl, rfl⟩]
    simp only [Slot.staged, hstaging, hask, hissuing, List.nil_append, Nat.zero_add]
    rfl

theorem HostSide.takeRecord_steady {h : HostSide} (hs : h.noneStuck) (ps : PoolState) (ring : RingId) (r : Block) :
    (h.takeRecord ps ring r).noneStuck ∧ (h.takeRecord ps ring r).config = h.config := by
  have hrefused : ∀ (k : HostSide), k.noneStuck → ∀ c, (k.handOver c).noneStuck ∧ (k.handOver c).config = k.config :=
    fun k hk c => ⟨fun x hx => by rw [HostSide.handOver_port]; exact hk x (by rwa [HostSide.handOver_tracker] at hx),
      HostSide.handOver_config _ _⟩
  have hreserved : (h.setTracker { h.tracker with reserved := h.tracker.reserved - 1 }).noneStuck := hs
  unfold HostSide.takeRecord
  dsimp only
  split
  · exact hrefused _ hreserved _
  · split
    · exact hrefused _ hreserved _
    · unfold HostSide.occupy
      split
      · exact ⟨hs, rfl⟩
      · next n _ _ =>
        dsimp only
        have hadded : ∀ (t : Tracker) (x : Slot), x.state ≠ .awaiting → t.slots = h.tracker.slots ++ [x] →
            (h.setTracker t).noneStuck := fun t x hx ht y hy hawait hended => by
          rcases List.mem_append.mp (ht ▸ hy) with hy | hy
          · exact hs y hy hawait hended
          · rw [List.mem_singleton.mp hy] at hawait; exact absurd hawait hx
        split
        · exact ⟨hadded _ (Slot.fresh n _ ring _ .fenced) (by nofun) rfl, rfl⟩
        · refine ⟨(HostSide.beginWork_steady ?_ n).1, (HostSide.beginWork_steady ?_ n).2.config⟩
          all_goals exact hadded _ (Slot.fresh n _ ring _ .issuing) (by nofun) rfl

/-! ## Records handed over in ring order (R151, R158) -/

theorem HostSide.passHead_setFetch_none (h : HostSide) (f : Fetch) (rest : List (Option Block)) :
    (h.passHead f rest).setFetch none = (h.setFetch none).setRq f.ring
      { h.rq f.ring with head := ((h.rq f.ring).head + 1) % (h.rq f.ring).size } := rfl

/-- The host side after a record has been handed to intake and what follows at once has been done. -/
def HostSide.handOne (ps : PoolState) (f : Fetch) (rest : List (Option Block)) (r : Block) (h : HostSide) : HostSide :=
  ((h.passHead f rest).takeRecord ps f.ring r).settle

theorem HostSide.handOne_quiescent {h : HostSide} (q : h.quiescent) (ps : PoolState) (f : Fetch)
    (rest : List (Option Block)) (r : Block) : (HostSide.handOne ps f rest r h).quiescent := by
  obtain ⟨hnone, hconfig⟩ := HostSide.takeRecord_steady (h := h.passHead f rest)
    (HostSide.noneStuck_of_quiescent (h := h.passHead f rest) q) ps f.ring r
  exact (HostSide.settle_quiet hnone fun id ring k => by rw [hconfig]; exact q.2 id ring k).1

theorem HostSide.handOne_fetch (h : HostSide) (ps : PoolState) (f : Fetch) (rest : List (Option Block)) (r : Block) :
    (HostSide.handOne ps f rest r h).engine.fetch = some { f with handed := f.handed + 1, recs := rest } := by
  rw [HostSide.handOne, (HostSide.follows_settle _).fetch_eq, HostSide.takeRecord_fetch]
  rfl

theorem HostSide.setFetch_setFetch_self {h : HostSide} {f : Option Fetch} (hf : h.engine.fetch = f) :
    (h.setFetch none).setFetch f = h := by
  rw [← hf]
  rfl

/-- Records that are there are handed over one after another. `P` is what one hand-over does; the fetch is left out of what
it sees. -/
theorem HostSide.handRecords_run {ps : PoolState} {ring : RingId} (hring : ring ≠ 0)
    {P : HostSide → Block → HostSide → Prop}
    (hP : ∀ (h : HostSide) (f : Fetch) (rest : List (Option Block)) (r : Block), h.quiescent → f.ring = ring →
      P (h.setFetch none) r ((HostSide.handOne ps f rest r h).setFetch none))
    {missing : List (Option Block)} (hmissing : missing = [] ∨ missing.head? = some none) (records : List Block)
    {h : HostSide} {f : Fetch} (q : h.quiescent) (hf : h.engine.fetch = some f) (hfring : f.ring = ring)
    (hrecs : f.recs = records.map some ++ missing) {k : Nat} (hk : records.length < k) :
    ∃ (gs : List HostSide) (g : HostSide), gs.length = records.length + 1 ∧ gs[0]? = some (h.setFetch none)
      ∧ gs[records.length]? = some g
      ∧ (∀ i a b r, gs[i]? = some a → gs[i + 1]? = some b → records[i]? = some r → P a r b)
      ∧ (missing = [] → h.handRecords ps k = g.setRq ring { g.rq ring with inFlight := false })
      ∧ (missing ≠ [] → h.handRecords ps k =
          g.setFetch (some { f with handed := f.handed + records.length, recs := missing })) := by
  induction records generalizing h f k with
  | nil =>
    obtain ⟨k, rfl⟩ := Nat.exists_eq_succ_of_ne_zero (Nat.ne_of_gt hk)
    refine ⟨[h.setFetch none], h.setFetch none, rfl, rfl, rfl, ?_, fun hdone => ?_, fun hleft => ?_⟩
    · intro i a b r _ _ hr
      nomatch hr
    · rw [HostSide.handRecords_done hf (by rw [hrecs, hdone]; rfl), HostSide.settle_quiescent (h := h.clearFetch f.ring) q,
        hfring]
      rfl
    · obtain ⟨rest, hrest⟩ : ∃ rest, missing = none :: rest := by
        cases missing with
        | nil => exact absurd rfl hleft
        | cons x rest =>
          rcases hmissing with hm | hm
          · nomatch hm
          · cases hm; exact ⟨rest, rfl⟩
      rw [HostSide.handRecords_waits hf (by rw [hrecs, hrest]; rfl)]
      refine (HostSide.setFetch_setFetch_self ?_).symm
      rw [hf, List.length_nil, Nat.add_zero, ← List.nil_append missing, ← List.map_nil, ← hrecs]
  | cons r records ih =>
    obtain ⟨k, rfl⟩ := Nat.exists_eq_succ_of_ne_zero (Nat.ne_of_gt (Nat.lt_of_le_of_lt (Nat.zero_le _) hk))
    rw [List.length_cons] at hk
    obtain ⟨gs, g, hlength, hfirst, hlast, hsteps, hdone, hleft⟩ := ih
      (HostSide.handOne_quiescent q ps f (records.map some ++ missing) r)
      (HostSide.handOne_fetch h ps f (records.map some ++ missing) r) hfring rfl (Nat.lt_of_succ_lt_succ hk)
    have hhand : h.handRecords ps (k + 1) = (HostSide.handOne ps f (records.map some ++ missing) r h).handRecords ps k :=
      HostSide.handRecords_record hf hrecs (hfring ▸ hring) ps k
    refine ⟨h.setFetch none :: gs, g, by rw [List.length_cons, List.length_cons, hlength], rfl, hlast,
      fun i a b r' ha hb hr => ?_, fun hm => by rw [hhand, hdone hm], fun hm => ?_⟩
    · cases i with
      | zero =>
        rw [List.getElem?_cons_succ, hfirst] at hb
        cases ha; cases hb; cases hr
        exact hP h f _ _ q hfring
      | succ i => exact hsteps i a b r' ha hb hr
    · rw [hhand, hleft hm, List.length_cons, Nat.add_assoc, Nat.add_comm 1]

/-! ## The bytes of a fetch read (R158) -/

theorem recordsOf_eq (k : Nat) (bytes : List Byte) :
    recordsOf k bytes = (List.range k).map fun i => blockOfBytes ((bytes.drop (64 * i)).take 64) := by
  induction k generalizing bytes with
  | zero => rfl
  | succ k ih =>
    rw [recordsOf, ih, List.range_succ_eq_map, List.map_cons, List.map_map, Nat.mul_zero, List.drop_zero]
    refine congrArg _ (List.map_congr_left fun i _ => ?_)
    rw [Function.comp, List.drop_drop, Nat.succ_eq_add_one, Nat.mul_add, Nat.add_comm]

theorem fillRecords_front (rs : List Block) (rest : List (Option Block)) :
    fillRecords (List.replicate rs.length none ++ rest) 0 rs = rs.map some ++ rest := by
  induction rs with
  | nil => cases rest <;> rfl
  | cons r rs ih => rw [List.length_cons, List.replicate_succ, List.cons_append, fillRecords, ih]; rfl

theorem fillRecords_one (recs : List (Option Block)) (i : Nat) (r : Block) :
    fillRecords recs i [r] = recs.set i (some r) := by
  induction recs generalizing i with
  | nil => rfl
  | cons x recs ih =>
    cases i with
    | zero => cases recs <;> rfl
    | succ i => rw [fillRecords, ih]; rfl; nofun

/-! ## What a record of a data ring does -/

theorem HostSide.setFetch_handOver (h : HostSide) (f : Option Fetch) (c : Completion) :
    (h.handOver c).setFetch f = (h.setFetch f).handOver c := ((HostSide.setFetch_unseen f).handOver h c).symm

/-- A hand-over alone leaves nothing to settle. -/
theorem HostSide.settle_handOver {h : HostSide} (q : h.quiescent) (c : Completion) : (h.handOver c).settle = h.handOver c :=
  HostSide.settle_quiescent (HostSide.quiescent_of_eq q (by rw [HostSide.handOver_tracker]) (HostSide.handOver_config _ _))

/-- A slot occupied by a record that waits for its fence, its list or its issue leaves nothing to settle. -/
theorem HostSide.settle_occupied {h k : HostSide} (q : h.quiescent) {x : Slot} (hx : x.state ≠ .completing)
    (hx' : x.state ≠ .awaiting) (htracker : k.tracker = h.tracker.occupied x) (hconfig : k.config = h.config) :
    k.settle = k := by
  refine HostSide.settle_quiescent ⟨fun y hy => ?_, fun id ring j => by rw [hconfig]; exact q.2 id ring j⟩
  rw [htracker] at hy
  rcases List.mem_append.mp hy with hy | hy
  · exact q.1 y hy
  · rw [List.mem_singleton.mp hy]
    exact ⟨hx, fun ha => absurd ha hx'⟩

/-- The answer, in one part, to a read of the fetch. -/
theorem exec_fetchRead {s : State} {r : HostRead} {f : Fetch} {bytes : List Byte} {first : Nat}
    (hread : s.host.port.sentRead? r.id =
      some { read := r, abandoned := false, bytes := List.replicate bytes.length none })
    (hfetch : s.host.engine.fetch = some f) (howner : r.owner = .fetch first) {recs : List (Option Block)}
    (hrecs : fillRecords f.recs (first - f.handed) (recordsOf (bytes.length / 64) bytes) = recs) :
    exec (.hostReadAnswer r.id (.data 0 bytes)) s = .next (s.setHost
      (((((s.host.endRead r.id).setFetch none).setFetch (some { f with recs := recs })).handRecords s.pool.control.state
        (f.recs.length + 1)).freePlace r.id)) := by
  rw [exec_hostReadAnswer hread, State.answerData_whole rfl (by rw [List.length_replicate])]
  dsimp only
  rw [howner, State.readDone]
  change Host.Outcome.next (s.setHost (((s.host.endRead r.id).fetchData s.pool.control.state first bytes).freePlace r.id)) = _
  rw [HostSide.fetchData_of_fetch (h := s.host.endRead r.id) hfetch, hrecs]
  rfl

/-- A refused record: its reservation is returned and the refusal handed over. -/
theorem HostSide.handOne_refused {h : HostSide} (q : h.quiescent) {ps : PoolState} {f : Fetch} {rest : List (Option Block)}
    {r : Block} {c : Completion} (hc : (h.passHead f rest).takeRecord ps f.ring r =
      ((h.passHead f rest).setTracker { h.tracker with reserved := h.tracker.reserved - 1 }).handOver c) :
    (HostSide.handOne ps f rest r h).setFetch none = (((h.setFetch none).setRq f.ring
      { h.rq f.ring with head := ((h.rq f.ring).head + 1) % (h.rq f.ring).size }).setTracker
        { h.tracker with reserved := h.tracker.reserved - 1 }).handOver c := by
  have hsettled := HostSide.settle_handOver
    (h := (h.passHead f rest).setTracker { h.tracker with reserved := h.tracker.reserved - 1 }) q c
  rw [HostSide.handOne, hc, hsettled, HostSide.setFetch_handOver]
  rfl

theorem HostSide.handOne_occupied {h k : HostSide} (q : h.quiescent) {ps : PoolState} {f : Fetch}
    {rest : List (Option Block)} {r : Block} (hk : (h.passHead f rest).takeRecord ps f.ring r = k) {x : Slot}
    (hx : x.state ≠ .completing) (hx' : x.state ≠ .awaiting) (htracker : k.tracker = h.tracker.occupied x)
    (hconfig : k.config = h.config) : HostSide.handOne ps f rest r h = k := by
  rw [HostSide.handOne, hk, HostSide.settle_occupied q hx hx' htracker hconfig]

/-- A record that passes intake, by what its slot does first. -/
theorem HostSide.handOne_passes {h : HostSide} (quiet : h.quiescent) {ps : PoolState} {f : Fetch}
    {rest : List (Option Block)} {r : Block} {q : DataReq} (hr : dataReqOf? r = some q)
    (hpass : q.refusal? ps h.tracker f.ring = none) {n : SlotNo} (hfree : h.tracker.slot? n = none)
    (hback : h.tracker.outstanding[n] = 0) (hlow : ∀ m, m < n → h.tracker.slot? m ≠ none ∨ h.tracker.outstanding[m] ≠ 0) :
    let k := h.passHead f rest
    let x := Slot.fresh n (h.tracker.tags[n] + 1) f.ring q .issuing
    let reads := (List.range (min 16 q.count)).flatMap x.dataReads
    let g := HostSide.handOne ps f rest r h
    (q.fencedAt h.tracker f.ring → g = k.setTracker (h.tracker.occupied { x with state := .fenced }))
    ∧ (¬q.fencedAt h.tracker f.ring → q.needsList = false → q.kind ≠ .write → g = k.setTracker (h.tracker.occupied x))
    ∧ (¬q.fencedAt h.tracker f.ring → q.needsList = true → h.port.sent.length + x.listReads.length ≤ 128 →
        (∀ z ∈ x.listReads, h.port.inWindow z.2.1 z.2.2 = true) →
        g = (k.setTracker (h.tracker.occupied { x with state := .loadingList })).asked x.listReads)
    ∧ (¬q.fencedAt h.tracker f.ring → q.needsList = false → q.kind = .write →
        h.port.sent.length + reads.length ≤ 128 → (∀ z ∈ reads, h.port.inWindow z.2.1 z.2.2 = true) →
        g = (k.setTracker (h.tracker.occupied { x with
          staging := (List.range (min 16 q.count)).map fun g => { gran := g, pieces := [] }
          askNext := min 16 q.count })).asked reads) := by
  intro k x reads g
  obtain ⟨others, hn⟩ := Tracker.availableSlots_eq_cons hfree hback hlow
  obtain ⟨hfenced, hfirst⟩ := HostSide.takeRecord_passes (h := k) hr hpass hn
  obtain ⟨hissue, hlist, hwrite⟩ := HostSide.beginWork_occupied (h := k) (x := x) hfree rfl rfl rfl
  refine ⟨fun hf => ?_, fun hf hnoList hkind => ?_, fun hf hneeds hroom hin => ?_, fun hf hnoList hkind hroom hin => ?_⟩
  · exact HostSide.handOne_occupied quiet (hfenced hf) (x := { x with state := .fenced }) (by nofun) (by nofun) rfl rfl
  · exact HostSide.handOne_occupied quiet ((hfirst hf).trans (hissue hnoList hkind)) (x := x) (by nofun) (by nofun) rfl rfl
  · exact HostSide.handOne_occupied quiet ((hfirst hf).trans (hlist hneeds hin hroom))
      (x := { x with state := .loadingList }) (by nofun) (by nofun) rfl rfl
  · exact HostSide.handOne_occupied quiet ((hfirst hf).trans (hwrite hnoList hkind hin hroom))
      (x := { x with staging := _, askNext := _ }) (by nofun) (by nofun) rfl rfl

end Sys2Proof.Machine

open Sys2Proof Sys2Proof.Machine

/-- Settles O24. -/
theorem dataRecordOccupiesSlot : Obligations.DataRecordOccupiesSlot := by
  unfold Obligations.DataRecordOccupiesSlot
  intro handed s r f bytes hread hfetch hring hquiet h answers
  constructor
  case right =>
    intro i tail hlength howner hrecs
    have hfill : fillRecords f.recs (f.handed + i + 1 - f.handed) (recordsOf (bytes.length / 64) bytes)
        = none :: tail.set i (some (blockOfBytes bytes)) := by
      rw [show f.handed + i + 1 - f.handed = i + 1 by omega, hlength, hrecs]
      simp only [Nat.reduceDiv, recordsOf, List.take_of_length_le (Nat.le_of_eq hlength), fillRecords_one, List.set_cons_succ]
    change exec _ s = _
    rw [exec_fetchRead hread hfetch howner hfill, HostSide.handRecords_waits rfl rfl]
  case left =>
    intro k later missing hk hlength howner hrecs hmissing records
    have hlength' : (recordsOf (bytes.length / 64) bytes).length = k := by
      rw [recordsOf_eq, List.length_map, List.length_range, hlength, Nat.mul_div_cancel_left _ (by omega)]
    have hfill : fillRecords f.recs (f.handed - f.handed) (recordsOf (bytes.length / 64) bytes)
        = records.map some ++ missing := by
      have hfront := fillRecords_front (recordsOf (bytes.length / 64) bytes) (later.map some ++ missing)
      rw [hlength'] at hfront
      rw [Nat.sub_self, hrecs, List.append_assoc, hfront, recordsOf_eq, hlength, Nat.mul_div_cancel_left _ (by omega),
        List.map_append, List.append_assoc]
    have hfuel : records.length < f.recs.length + 1 := by
      simp only [records, hrecs, List.length_append, List.length_map, List.length_range, List.length_replicate]
      omega
    have hhand : ∀ (a : HostSide) (f' : Fetch) (rest : List (Option Block)) (record : Block), a.quiescent → f'.ring = f.ring →
        handed s.pool.control.state f.ring (a.setFetch none) record
          ((HostSide.handOne s.pool.control.state f' rest record a).setFetch none) := by
      rintro a f' rest record quiet hf'
      rw [← hf']
      refine ⟨fun hnone => HostSide.handOne_refused quiet (HostSide.takeRecord_badKind hnone _ _), fun q hq =>
        ⟨fun st hst => HostSide.handOne_refused quiet (HostSide.takeRecord_refused hq hst), fun n hpass hfree hback hlow => ?_⟩⟩
      obtain ⟨hfenced, hissue, hlist, hwrite⟩ := HostSide.handOne_passes (f := f') (rest := rest) quiet hq hpass hfree hback hlow
      refine ⟨fun hf => by rw [hfenced hf]; rfl, fun hf hnoList hkind => ?_, fun hf hneeds hroom hin => ?_,
        fun hf hnoList hkind hroom hin => ?_⟩
      · rw [hissue hf (Bool.eq_false_iff.mpr fun hneeds => hnoList (q.needsList_iff.mp hneeds)) hkind]
        rfl
      · rw [hlist hf (q.needsList_iff.mpr hneeds) hroom hin]
        exact ⟨rfl, rfl, rfl, rfl, rfl, List.length_append.trans (congrArg _ (length_placesOf _ _)), rfl⟩
      · rw [hwrite hf (Bool.eq_false_iff.mpr fun hneeds => hnoList (q.needsList_iff.mp hneeds)) hkind hroom hin]
        exact ⟨rfl, rfl, rfl, rfl, rfl, List.length_append.trans (congrArg _ (length_placesOf _ _)), rfl⟩
    obtain ⟨gs, g, hgs, hfirst, hlast, hsteps, hdone, hleft⟩ := HostSide.handRecords_run hring hhand hmissing records
      (h := h.setFetch (some { f with recs := records.map some ++ missing })) (k := f.recs.length + 1) hquiet rfl rfl rfl hfuel
    refine ⟨gs, g, hgs, hfirst, hlast, hsteps, fun hm => ?_, fun hm => ?_⟩
    · change exec _ s = _
      rw [exec_fetchRead hread hfetch howner hfill]
      exact congrArg (fun k : HostSide => Host.Outcome.next (s.setHost (k.freePlace r.id))) (hdone hm)
    · change exec _ s = _
      rw [exec_fetchRead hread hfetch howner hfill]
      exact congrArg (fun k : HostSide => Host.Outcome.next (s.setHost (k.freePlace r.id))) (hleft hm)

end

section
/-! PROOF. Host reads that fail, and the buffer list of a request. -/

namespace Sys2Proof.Machine

/-! ## Reads that take the places of ended ones -/

/-- A sent read was sent before, or was waiting and is not abandoned. -/
theorem HostSide.mem_sendWaiting (k : Nat) {h : HostSide} :
    (∀ x ∈ (h.sendWaiting k).port.sent, x ∈ h.port.sent ∨ x.read ∈ h.port.waiting ∧ x.abandoned = false)
      ∧ ∀ x ∈ (h.sendWaiting k).port.waiting, x ∈ h.port.waiting := by
  induction k generalizing h with
  | zero => exact ⟨fun x hx => .inl hx, fun x hx => hx⟩
  | succ k ih =>
    rw [HostSide.sendWaiting]
    split
    case h_1 => exact ⟨fun x hx => .inl hx, fun x hx => hx⟩
    case h_2 r rest hwaiting =>
      split
      case isFalse => exact ⟨fun x hx => .inl hx, fun x hx => hx⟩
      case isTrue =>
        obtain ⟨hsent, hleft⟩ := ih (h := (h.setPort { h.port with
          waiting := rest
          sent := h.port.sent ++ [{ read := r, abandoned := false, bytes := List.replicate r.len none }] }).setOut
            (h.out ++ [.read r.id r.addr r.len]))
        rw [hwaiting]
        refine ⟨fun x hx => ?_, fun x hx => List.mem_cons_of_mem _ (hleft x hx)⟩
        rcases hsent x hx with hold | ⟨hnew, habandoned⟩
        · rcases List.mem_append.mp hold with hold | hold
          · exact .inl hold
          · rw [List.mem_singleton.mp hold]
            exact .inr ⟨List.mem_cons_self, rfl⟩
        · exact .inr ⟨List.mem_cons_of_mem _ hnew, habandoned⟩

/-- After the place of a read has freed, the reads that `f` names are all abandoned, if they were, and none waits, if none
did. -/
theorem HostSide.freePlace_abandoned {h : HostSide} {f : Owner → Bool}
    (hsent : ∀ x ∈ h.port.sent, f x.read.owner = true → x.abandoned = true)
    (hwaiting : ∀ x ∈ h.port.waiting, f x.owner = false) (id : Nat) :
    (∀ x ∈ (h.freePlace id).port.sent, f x.read.owner = true → x.abandoned = true)
      ∧ ∀ x ∈ (h.freePlace id).port.waiting, f x.owner = false := by
  obtain ⟨hmem, hleft⟩ := HostSide.mem_sendWaiting h.port.waiting.length
    (h := h.setPort { h.port with sent := h.port.sent.filter fun r => r.read.id != id })
  refine ⟨fun x hx hf => ?_, fun x hx => hwaiting x (hleft x hx)⟩
  rcases hmem x hx with hold | ⟨hnew, _⟩
  · exact hsent x (List.mem_filter.mp hold).1 hf
  · exact absurd hf (by rw [hwaiting _ hnew]; nofun)

theorem HostSide.abandonReads_abandoned (h : HostSide) (f : Owner → Bool) :
    (∀ x ∈ (h.abandonReads f).port.sent, f x.read.owner = true → x.abandoned = true)
      ∧ ∀ x ∈ (h.abandonReads f).port.waiting, f x.owner = false := by
  constructor
  · intro x hx hf
    obtain ⟨y, _, rfl⟩ := List.mem_map.mp hx
    split at hf
    case isTrue he => rw [if_pos he]
    case isFalse he => exact absurd hf he
  · intro x hx
    simpa using (List.mem_filter.mp hx).2

/-! ## A fetch that fails (R159) -/

theorem HostSide.rq_giveUpFetch (h : HostSide) (f : Fetch) (n : RingId) : (h.giveUpFetch f).rq n = if f.ring = n then
    { h.rq f.ring with state := if (h.rq f.ring).state = .active then .faulted else (h.rq f.ring).state, inFlight := false }
    else h.rq n := by
  have hrq : ∀ k : HostSide, (∀ m, k.rq m = h.rq m) → ∀ r : Rq, ((k.setRq f.ring r).clearFetch f.ring).rq n =
      if f.ring = n then { r with inFlight := false } else h.rq n := fun k hk r => by
    rw [HostSide.clearFetch, HostSide.rq_setRq_self, HostSide.rq_setFetch, HostSide.rq_setRq]
    split
    · rfl
    case isFalse hn => rw [HostSide.rq_setRq, if_neg hn, hk]
  unfold HostSide.giveUpFetch
  dsimp only
  split
  · exact hrq (h.setCq _ _) (fun _ => rfl) _
  · exact hrq ((h.setCq _ _).setTracker _) (fun _ => rfl) _

theorem HostSide.giveUpFetch_tracker (h : HostSide) (f : Fetch) : (h.giveUpFetch f).tracker =
    { h.tracker with reserved := h.tracker.reserved - (if f.ring = 0 then 0 else f.recs.length) } := by
  unfold HostSide.giveUpFetch
  dsimp only
  split <;> rfl

theorem HostSide.giveUpFetch_events (h : HostSide) (f : Fetch) : (h.giveUpFetch f).events = h.events
    ∧ (h.giveUpFetch f).engine.eq = h.engine.eq := by
  unfold HostSide.giveUpFetch
  dsimp only
  split <;> exact ⟨rfl, rfl⟩

/-- The fetch is given up, and, with the event ring not ACTIVE, the event of it waits. -/
theorem HostSide.failFetch_inactive {h : HostSide} {f : Fetch} (q : h.quiescent) (hf : h.engine.fetch = some f)
    (heq : h.engine.eq.state ≠ .active) : h.failFetch = ((h.abandonReads Owner.isFetch).giveUpFetch f).setEvents
      (if (h.rq f.ring).state = .faulted then h.events
        else h.events.take (.queueFault .request f.ring .fetchFailed)) := by
  let g := (h.abandonReads Owner.isFetch).giveUpFetch f
  have hslots : g.tracker.slots = h.tracker.slots := HostSide.giveUpFetch_slots _ _
  have hconfig : g.config = h.config := HostSide.giveUpFetch_config _ _
  obtain ⟨hevents, hring⟩ : g.events = h.events ∧ g.engine.eq = h.engine.eq := HostSide.giveUpFetch_events _ _
  have htold : g.raise (.queueFault .request f.ring .fetchFailed) = g.setEvents
      (h.events.take (.queueFault .request f.ring .fetchFailed)) := by
    rw [HostSide.raise_inactive (by rw [hring]; exact heq), hevents]
  have hkept : g.setEvents h.events = g := by rw [← hevents]; rfl
  have hsettled : ∀ u, (g.setEvents u).settle = g.setEvents u := fun u =>
    HostSide.settle_quiescent (HostSide.quiescent_of_eq q hslots hconfig)
  rw [HostSide.failFetch_of_fetch hf]
  change HostSide.settle (if _ then g else g.raise _) = _
  split
  case isTrue hfaulted =>
    rw [← hkept]
    exact hsettled _
  case isFalse hfaulted =>
    rw [htold]
    exact hsettled _

/-! ## A slot whose host access fails (R120, R138) -/

theorem Tracker.slot?_unique {t : Tracker} (ht : t.safe) {n : SlotNo} {x y : Slot} (hx : t.slot? n = some x)
    (hy : y ∈ t.slots) (hn : y.num = n) : y = x := by
  obtain ⟨hmem, hnum⟩ := Tracker.mem_of_slot? hx
  exact List.inj_on_of_nodup_map ht hy hmem (hn.trans hnum.symm)

theorem HostSide.failSlot_of_slot {h : HostSide} {n : SlotNo} {x : Slot} (hx : h.tracker.slot? n = some x)
    (hfirst : x.hostAccess = false) : h.failSlot n =
      (h.abandonReads (Owner.ofSlot n)).modifySlot n fun s => { s.stop with hostAccess := true } := by
  rw [HostSide.failSlot, hx]
  dsimp only
  rw [hfirst]
  rfl

theorem Slot.stop_state {s : Slot} (hs : s.state ≠ .completing) : s.stop.state = .awaiting := by
  cases hstate : s.state with
  | completing => exact absurd hstate hs
  | fenced | loadingList | issuing | awaiting => simp [Slot.stop, hstate]

/-! ## Reads of buffers (R106, R132, R136) -/

/-- The host addresses of buffers, in order. -/
def bufferAddresses (ps : List (Nat × Nat)) : List Nat := ps.flatMap fun p => (List.range p.2).map (p.1 + ·)

theorem splitSegments_addresses (ps : List (Nat × Nat)) (off : Nat) :
    readAddresses (splitSegments ps off) = bufferAddresses ps := by
  induction ps generalizing off with
  | nil => rfl
  | cons p ps ih =>
    rw [splitSegments, readAddresses, List.flatMap_append, bufferAddresses, List.flatMap_cons]
    exact congrArg₂ _ (splitReads_addresses (Nat.le_refl _)) (ih _)

theorem splitSegments_offsets (ps : List (Nat × Nat)) (off : Nat) : OffsetsFrom off (splitSegments ps off) := by
  induction ps generalizing off with
  | nil => trivial
  | cons p ps ih =>
    exact (splitReads_offsets _ _ _ _).append (by rw [splitReads_total (Nat.le_refl _)]; exact ih _)

theorem splitSegments_allowed {ps : List (Nat × Nat)} {off : Nat} {z : Nat × Nat × Nat} (hz : z ∈ splitSegments ps off) :
    allowedRead z.1 z.2.2 ∧ ∃ p ∈ ps, p.1 ≤ z.1 ∧ z.1 + z.2.2 ≤ p.1 + p.2 := by
  induction ps generalizing off with
  | nil => nomatch hz
  | cons p ps ih =>
    rcases List.mem_append.mp hz with hz | hz
    · obtain ⟨hallowed, hinside⟩ := splitReads_allowed hz
      exact ⟨hallowed, p, List.mem_cons_self, hinside⟩
    · obtain ⟨hallowed, q, hq, hinside⟩ := ih hz
      exact ⟨hallowed, q, List.mem_cons_of_mem _ hq, hinside⟩

/-- The owner of each read of a transfer names the bytes before it. -/
theorem owner_of_offsets {zs : List (Nat × Nat × Nat)} (hzs : OffsetsFrom 0 zs) (owner : Nat → Owner)
    {older younger : List (Owner × Nat × Nat)} {z : Owner × Nat × Nat}
    (hz : zs.map (fun x => (owner x.2.1, x.1, x.2.2)) = older ++ z :: younger) : z.1 = owner (older.map (·.2.2)).sum := by
  obtain ⟨before, rest, rfl, rfl, hrest⟩ := List.map_eq_append_iff.mp hz
  obtain ⟨y, after, rfl, rfl, rfl⟩ := List.map_eq_cons_iff.mp hrest
  have hoffset := hzs.offset_eq
  rw [Nat.zero_add] at hoffset
  rw [List.map_map]
  exact congrArg owner hoffset

theorem addresses_of_reads (zs : List (Nat × Nat × Nat)) (owner : Nat → Owner) :
    ((zs.map fun x => (owner x.2.1, x.1, x.2.2)).flatMap fun z => (List.range z.2.2).map (z.2.1 + ·)) = readAddresses zs := by
  rw [List.flatMap_map]
  rfl

/-! ## The whole buffer list (R107, R132) -/

theorem listConsistent_iff (es : List ListEntry) (len : Nat) : listConsistent es len = true ↔
    (∀ e ∈ es, e.len ≠ 0 ∧ e.len % 8 = 0) ∧ (es.map (·.len)).sum = len := by
  simp [listConsistent]

theorem HostSide.slot?_single {h : HostSide} {x : Slot} (hslots : h.tracker.slots = [x]) :
    h.tracker.slot? x.num = some x := by
  simp [Tracker.slot?, hslots]

theorem HostSide.modifySlot_single {h : HostSide} {x : Slot} (hslots : h.tracker.slots = [x]) (f : Slot → Slot) :
    h.modifySlot x.num f = h.setTracker { h.tracker with slots := [f x] } :=
  HostSide.modifySlot_last (xs := []) hslots (fun _ hy => nomatch hy) f

/-- The bytes of a list that its one read has brought. -/
theorem HostSide.listData_whole {h : HostSide} {x : Slot} {bytes : List Byte} (hslots : h.tracker.slots = [x])
    (hpieces : x.listPieces = []) (hnone : h.port.outstanding (Owner.ofSlot x.num) = false) :
    let es := listEntries x.req.listCount bytes
    let loaded := h.setTracker { h.tracker with slots := [{ x with list := es }] }
    h.listData x.num 0 bytes = HostSide.settle (if listConsistent es x.req.len then loaded.beginIssue x.num
      else h.setTracker { h.tracker with slots :=
        [{ Slot.stop { x with listPieces := [{ offset := 0, bytes := bytes }] } with listMismatch := true }] }) := by
  intro es loaded
  let x1 : Slot := { x with listPieces := [{ offset := 0, bytes := bytes }] }
  let h1 := h.setTracker { h.tracker with slots := [x1] }
  have hmodified : (h.modifySlot x.num fun s =>
      { s with listPieces := insertPiece { offset := 0, bytes := bytes } s.listPieces }) = h1 := by
    rw [HostSide.modifySlot_single hslots, hpieces]
    rfl
  have hslot : h1.tracker.slot? x.num = some x1 := HostSide.slot?_single (x := x1) rfl
  have hbytes : pieceBytes x1.listPieces = bytes := by simp [x1, pieceBytes]
  have hloaded : (h1.modifySlot x.num fun s => { s with list := es, listPieces := [] }) = loaded := by
    rw [show x.num = x1.num from rfl, HostSide.modifySlot_single (h := h1) rfl]
    change h.setTracker { h.tracker with slots := [{ x with list := es, listPieces := [] }] } = _
    rw [← hpieces]
  have hstopped : (h1.modifySlot x.num fun s => { s.stop with listMismatch := true })
      = h.setTracker { h.tracker with slots := [{ x1.stop with listMismatch := true }] } :=
    HostSide.modifySlot_single (h := h1) (x := x1) rfl _
  rw [HostSide.listData, hmodified]
  dsimp only
  rw [show h1.port.outstanding (Owner.ofSlot x.num) = false from hnone, HostSide.judgeList, hslot]
  dsimp only
  rw [hbytes, hloaded, hstopped]
  rfl

/-- The one slot has ended: it completes, and no slot is left. -/
theorem HostSide.settle_single {h : HostSide} {x : Slot} (hslots : h.tracker.slots = [x]) (hready : h.slotReady x = true)
    (hconfig : ∀ id ring k, h.config ≠ .drainWait id ring k) :
    h.settle = (h.handOver x.completion).setTracker { h.tracker with slots := [] } := by
  have hcompleting : (h.modifySlot x.num fun y => { y with state := .completing })
      = h.setTracker { h.tracker with slots := [{ x with state := .completing }] } := HostSide.modifySlot_single hslots _
  have hcomplete : h.completeSlot x = (h.handOver x.completion).setTracker { h.tracker with slots := [] } := by
    rw [HostSide.completeSlot, hcompleting, ← HostSide.handOver_setTracker, HostSide.freeSlot]
    simp only [HostSide.setTracker_tracker, List.filter_cons, bne_self_eq_false, Bool.false_eq_true, if_false,
      List.filter_nil]
    rfl
  have hone : h.settleSlots 1 = h.completeSlot x := by
    rw [HostSide.settleSlots, hslots]
    simp [hready, HostSide.settleSlots]
  rw [HostSide.settle, hslots]
  change (h.settleSlots 1).endDrain = _
  rw [hone, hcomplete, HostSide.endDrain]
  split
  case h_1 id ring k hwait => exact absurd ((HostSide.handOver_config _ _).symm.trans hwait) (hconfig id ring k)
  · rfl
  · rfl

end Sys2Proof.Machine

open Sys2Proof Sys2Proof.Machine

/-- Settles O25. -/
theorem fetchFailure : Obligations.FetchFailure := by
  intro s id r f k c hr habandoned howner hfetch hquiet heq hc q
  have hinactive : s.host.engine.eq.state ≠ .active := by rw [heq]; nofun
  have hfailed : s.host.failRead r = ((s.host.endRead r.read.id).failFetch).freePlace r.read.id := by
    rw [HostSide.failRead, habandoned, howner]
    rfl
  let g := ((s.host.endRead r.read.id).abandonReads Owner.isFetch).giveUpFetch f
  have hgave := HostSide.failFetch_inactive (h := s.host.endRead r.read.id) hquiet hfetch hinactive
  rw [hgave] at hfailed
  have hport : g.port = ((s.host.endRead r.read.id).abandonReads Owner.isFetch).port := HostSide.giveUpFetch_port _ _
  obtain ⟨hsent, hwaiting⟩ := (s.host.endRead r.read.id).abandonReads_abandoned Owner.isFetch
  have hfreed := fun u : EventUnit => HostSide.freePlace_abandoned (h := g.setEvents u) (f := Owner.isFetch)
    (by rw [HostSide.setEvents_port, hport]; exact hsent) (by rw [HostSide.setEvents_port, hport]; exact hwaiting) r.read.id
  refine ⟨_, exec_readFails hr hc, ?_⟩
  have hrq : ∀ m, (s.host.failRead r).rq m = g.rq m := fun m => by
    rw [hfailed, HostSide.rq, HostSide.freePlace_engine]; rfl
  have hcq : ∀ m, (s.host.failRead r).cq m = g.cq m := fun m => by
    rw [hfailed, HostSide.cq, HostSide.freePlace_engine]; rfl
  rw [State.setHost_host]
  simp only [hrq, hcq]
  rw [hfailed]
  have htracker : g.tracker = { s.host.tracker with
      reserved := s.host.tracker.reserved - (if f.ring = 0 then 0 else f.recs.length) } :=
    HostSide.giveUpFetch_tracker _ _
  refine ⟨(HostSide.rq_giveUpFetch _ f f.ring).trans (if_pos rfl), (HostSide.cq_giveUpFetch _ f _).trans (if_pos rfl),
    fun m hm => (HostSide.rq_giveUpFetch _ f m).trans (if_neg (Ne.symm hm)),
    fun m hm => (HostSide.cq_giveUpFetch _ f m).trans (if_neg (Ne.symm hm)), ?_, ?_, ?_, ?_, (hfreed _).1, (hfreed _).2, ?_, rfl⟩
  · rw [HostSide.freePlace_engine]; exact HostSide.giveUpFetch_fetch _ _
  · rw [HostSide.freePlace_tracker]; exact (congrArg Tracker.slots htracker : g.tracker.slots = _)
  · rw [HostSide.freePlace_tracker]; exact congrArg Tracker.reserved htracker
  · rw [HostSide.freePlace_events]; rfl
  · rw [HostSide.freePlace_config]; exact HostSide.giveUpFetch_config _ _

/-- Settles O26. -/
theorem writeDataFailure : Obligations.WriteDataFailure := by
  intro s id r n g off x c hr habandoned howner hsafe hquiet hx hfirst hops hc
  obtain ⟨hmem, hnum⟩ := Tracker.mem_of_slot? hx
  have hstate := (hquiet.1 x hmem).1
  let k := (s.host.endRead r.read.id).failSlot n
  have hk : k = ((s.host.endRead r.read.id).abandonReads (Owner.ofSlot n)).modifySlot n fun s =>
      { s.stop with hostAccess := true } := HostSide.failSlot_of_slot (h := s.host.endRead r.read.id) hx hfirst
  have hslot : ∀ m, k.tracker.slot? m =
      (s.host.tracker.slot? m).map fun y => if m = n then { y.stop with hostAccess := true } else y := fun m => by
    rw [hk, HostSide.slot?_modifySlot (f := fun s => { s.stop with hostAccess := true }) fun _ => rfl]
    rfl
  have hstill : k.quiescent := by
    rw [hk]
    refine ⟨fun y hy => ?_, hquiet.2⟩
    obtain ⟨z, hz, rfl⟩ := List.mem_map.mp hy
    split
    case isTrue hn =>
      rw [Tracker.slot?_unique hsafe hx hz hn]
      refine ⟨?_, fun _ => hops⟩
      change x.stop.state ≠ .completing
      rw [Slot.stop_state hstate]
      nofun
    case isFalse => exact hquiet.1 z hz
  have hfailed : s.host.failRead r = k.freePlace r.read.id := by
    rw [HostSide.failRead, habandoned, howner]
    exact congrArg (fun h : HostSide => h.freePlace r.read.id) (HostSide.settle_quiescent hstill)
  obtain ⟨hsent, hwaiting⟩ := (s.host.endRead r.read.id).abandonReads_abandoned (Owner.ofSlot n)
  obtain ⟨hsent', hwaiting'⟩ := HostSide.freePlace_abandoned (h := k) (f := Owner.ofSlot n)
    (by rw [hk]; exact hsent) (by rw [hk]; exact hwaiting) r.read.id
  refine ⟨_, exec_readFails hr hc, ?_⟩
  rw [State.setHost_host, hfailed]
  refine ⟨?_, fun m hm => ?_, hsent', hwaiting', ?_, ?_, ?_, rfl⟩
  · rw [HostSide.freePlace_tracker, hslot, hx]
    have hawaiting := Slot.stop_state hstate
    simp only [Option.map_some, if_pos, ← hawaiting]
    rfl
  · rw [HostSide.freePlace_tracker, hslot]
    simp [hm]
  · rw [HostSide.freePlace_engine, hk]; rfl
  · rw [HostSide.freePlace_events, hk]; rfl
  · rw [HostSide.freePlace_config, hk]; rfl

/-- Settles O27. -/
theorem bufferListArrives : Obligations.BufferListArrives := by
  unfold Obligations.BufferListArrives
  intro addresses allowed
  refine ⟨fun x => ⟨?listAddresses, ?listAllowed, ?listOwners⟩, fun x k => ?data, fun s r n x bytes => ?arrives⟩
  case listAddresses =>
    exact (addresses_of_reads _ (Owner.slotList x.num)).trans (splitReads_addresses (Nat.le_refl _))
  case listAllowed =>
    intro z hz
    obtain ⟨y, hy, rfl⟩ := List.mem_map.mp hz
    exact (splitReads_allowed hy).1
  case listOwners =>
    exact fun older z younger hz => owner_of_offsets (splitReads_offsets _ _ 0 _) (Owner.slotList x.num) hz
  case data =>
    intro base lo len buffers
    refine ⟨(addresses_of_reads _ (Owner.slotData x.num k)).trans (splitSegments_addresses _ 0), fun z hz => ?_,
      fun older z younger hz => owner_of_offsets (splitSegments_offsets _ 0) (Owner.slotData x.num k) hz⟩
    obtain ⟨y, hy, rfl⟩ := List.mem_map.mp hz
    exact splitSegments_allowed hy
  case arrives =>
    intro hsent hwaiting howner hquiet hslots hnum hloading hpieces hlength hcount es consistent h y m reads
    subst hnum
    have hread : s.host.port.sentRead? r.id =
        some { read := r, abandoned := false, bytes := List.replicate bytes.length none } := by
      rw [HostPort.sentRead?, hsent]
      simp
    have hover : ∀ f : Owner → Bool, (s.host.endRead r.id).port.outstanding f = false := fun f => by
      simp [HostPort.outstanding, HostSide.endRead, hsent, hwaiting]
    have hdata := HostSide.listData_whole (h := s.host.endRead r.id) (bytes := bytes) hslots hpieces (hover _)
    have hexec : exec (.hostReadAnswer r.id (.data 0 bytes)) s =
        .next (s.setHost (((s.host.endRead r.id).listData x.num 0 bytes).freePlace r.id)) := by
      rw [exec_hostReadAnswer hread, State.answerData_whole rfl (by rw [List.length_replicate])]
      dsimp only
      rw [howner]
      rfl
    let loaded := (s.host.endRead r.id).setTracker { s.host.tracker with slots := [{ x with list := es }] }
    have hx : loaded.tracker.slot? x.num = some { x with list := es } :=
      HostSide.slot?_single (h := loaded) (x := { x with list := es }) rfl
    have hstill : ∀ (k : HostSide) (z : Slot), k.tracker.slots = [z] → z.state = .issuing → k.config = s.host.config →
        k.settle = k := fun k z hk hz hconfig => by
      refine HostSide.settle_quiescent ⟨fun z' hz' => ?_, fun id ring j => by rw [hconfig]; exact hquiet.2 id ring j⟩
      rw [hk] at hz'
      rw [List.mem_singleton.mp hz', hz]
      exact ⟨by nofun, by nofun⟩
    refine ⟨fun hok hkind => ?reads, fun hok hkind hstaging hask hroom hin => ?writes,
      fun hbad haborted haccess hended => ?mismatch⟩
    case reads =>
      let g := (s.host.endRead r.id).setTracker { s.host.tracker with slots := [y] }
      have hissued : loaded.beginIssue x.num = g := by
        rw [HostSide.beginIssue_other hx (by rw [hkind]; nofun)]
        exact HostSide.modifySlot_single (h := loaded) (x := { x with list := es }) rfl _
      have hlist : (s.host.endRead r.id).listData x.num 0 bytes = g := by
        rw [hdata, if_pos ((listConsistent_iff _ _).mpr hok)]
        exact (congrArg HostSide.settle hissued).trans (hstill g y rfl rfl rfl)
      rw [hexec, hlist, HostSide.freePlace_none (h := g) hwaiting]
      simp [HostSide.endRead, hsent, h, g, HostSide.setPort, HostSide.setTracker]
    case writes =>
      let y' : Slot := { y with staging := (List.range m).map (fun g => { gran := g, pieces := [] }), askNext := m }
      let g := ((s.host.endRead r.id).setTracker { s.host.tracker with slots := [y'] }).asked reads
      have hissued : loaded.beginIssue x.num = g := by
        have hroom' : loaded.port.sent.length + reads.length ≤ 128 := by
          change (s.host.endRead r.id).port.sent.length + reads.length ≤ 128
          rw [HostSide.endRead_sent_length, hsent, List.length_singleton]
          omega
        have hmodified := HostSide.modifySlot_single (h := loaded) (x := { x with list := es }) rfl
          fun s => Slot.staged { s with state := .issuing } m
        have hslot : Slot.staged { x with list := es, state := .issuing } m = y' := by
          simp only [Slot.staged, hstaging, hask, List.nil_append, Nat.zero_add]
          rfl
        rw [HostSide.beginIssue_write hx hkind hstaging hask hin hroom']
        refine congrArg (fun k : HostSide => k.asked reads) (hmodified.trans ?_)
        rw [hslot]
        rfl
      have hlist : (s.host.endRead r.id).listData x.num 0 bytes = g := by
        rw [hdata, if_pos ((listConsistent_iff _ _).mpr hok)]
        exact (congrArg HostSide.settle hissued).trans (hstill g y' rfl rfl rfl)
      refine ⟨_, hexec, ?_⟩
      rw [State.setHost_host, hlist, HostSide.freePlace_none (h := g) hwaiting]
      exact ⟨rfl, rfl, rfl, rfl, rfl, rfl⟩
    case mismatch =>
      intro done
      let c : Completion := { id := x.req.id, ring := x.ring, status := .listMismatch, failAddr := x.failAddr.getD 0,
                              tainted := x.tainted, corrected := x.corrected, done := x.done, result := 0 }
      let z : Slot := { Slot.stop { x with listPieces := [{ offset := 0, bytes := bytes }] } with listMismatch := true }
      let k := (s.host.endRead r.id).setTracker { s.host.tracker with slots := [z] }
      let g := ((s.host.endRead r.id).handOver c).setTracker { s.host.tracker with slots := [] }
      have hcompletion : z.completion = c := by
        simp only [Slot.completion, Slot.status, z, Slot.stop, haborted, haccess]
        rfl
      have hready : k.slotReady z = true := by
        have hstate : z.state = .awaiting := by simp [z, Slot.stop, hloading]
        have hops : (z.ended == z.issued) = true := beq_iff_eq.mpr hended.symm
        have hreads : k.port.outstanding (Owner.ofSlot z.num) = false := hover _
        rw [HostSide.slotReady, hstate, hops, hreads]
        rfl
      have hlist : (s.host.endRead r.id).listData x.num 0 bytes = g := by
        rw [hdata, if_neg fun hc => hbad ((listConsistent_iff _ _).mp hc)]
        refine (HostSide.settle_single (h := k) (x := z) rfl hready hquiet.2).trans ?_
        rw [hcompletion, ← HostSide.handOver_setTracker]
        rfl
      -- the read places are not seen by the hand-over
      have hends := (HostSide.setSent_unseen (s.host.endRead r.id).port.sent).handOver s.host c
      have hleft := (HostSide.setSent_unseen []).handOver s.host c
      have hport : g.port.waiting = [] := by
        change ((s.host.endRead r.id).handOver c).port.waiting = []
        rw [HostSide.handOver_port]
        exact hwaiting
      refine ⟨_, hexec, ?_⟩
      rw [State.setHost_host, hlist, HostSide.freePlace_none hport]
      refine ⟨rfl, ?_, ?_, ?_, ?_, rfl⟩
      · exact (congrArg HostSide.out hends).trans (congrArg HostSide.out hleft).symm
      · exact (congrArg HostSide.engine hends).trans (congrArg HostSide.engine hleft).symm
      · exact (congrArg HostSide.events hends).trans (congrArg HostSide.events hleft).symm
      · exact (HostSide.handOver_config (s.host.endRead r.id) c).trans rfl

end

section
/-! PROOF. The operation a slot offers next, and how a COPY decides its destination granules. -/

namespace Sys2Proof.Machine

/-! ## Words and bytes of a granule -/

theorem blockWord_blockOfWords (f : Nat → BitVec 64) {w : Nat} (hw : w < 8) : blockWord (blockOfWords f) w = f w := by
  have hword : ∀ k : Fin 8, blockWord (blockOfWords f) k.val = f k.val := fun k => by
    refine BitVec.eq_of_getLsbD_eq fun i hi => ?_
    simp only [blockWord, BitVec.getLsbD_extractLsb', hi, decide_true, Bool.true_and, blockOfWords]
    fin_cases k <;> grind
  exact hword ⟨w, hw⟩

/-- Bytes placed in a granule are found there again. -/
theorem blockBytes_placedBytes {off : Nat} {bytes : List Byte} (hfits : off + bytes.length ≤ 64) :
    blockBytes (placedBytes off bytes) off bytes.length = bytes := by
  have hlt := bytesToNat_lt bytes
  have hshift : bytesToNat bytes <<< (8 * off) < 2 ^ 512 := by
    calc bytesToNat bytes <<< (8 * off) = bytesToNat bytes * 256 ^ off := by
          rw [Nat.shiftLeft_eq, Nat.pow_mul]
      _ < 256 ^ bytes.length * 256 ^ off := Nat.mul_lt_mul_of_pos_right hlt (Nat.pow_pos (by omega))
      _ = 256 ^ (bytes.length + off) := (Nat.pow_add _ _ _).symm
      _ ≤ 256 ^ 64 := Nat.pow_le_pow_right (by omega) (by omega)
      _ = 2 ^ 512 := (Nat.pow_mul 2 8 64).symm
  rw [blockBytes, placedBytes, BitVec.toNat_ofNat, Nat.mod_eq_of_lt hshift, Nat.shiftLeft_shiftRight, natToBytes_bytesToNat]

/-! ## The operation of a granule (R115, R118, R136) -/

theorem storeKind_whole {p len k : Nat} (hwhole : touchedWhole p len k = true) (d : Block) : storeKind p len k d = .write d :=
  if_pos hwhole

theorem storeKind_partial {p len k : Nat} (hwhole : touchedWhole p len k = false) (d : Block) :
    storeKind p len k d = .merge (touchedMask p len k) d := if_neg (by rw [hwhole]; nofun)

theorem storeKind_eq (p len k : Nat) (d : Block) : storeKind p len k d =
    if touchedWhole p len k = true then .write d else .merge (touchedMask p len k) d := rfl

theorem Slot.stagedBytes?_none {x : Slot} {k : Nat} (hnone : ∀ z ∈ x.staging, z.gran ≠ k) : x.stagedBytes? k = none := by
  have hfind : x.staging.find? (fun z => z.gran == k) = none := List.find?_eq_none.mpr fun z hz => by simpa using hnone z hz
  rw [Slot.stagedBytes?, hfind]
  rfl

/-- The bytes staged for a granule: those of the first place with its number. -/
theorem Slot.stagedBytes?_eq {x : Slot} {k : Nat} {older younger : List Staged} {z : Staged}
    (hstaging : x.staging = older ++ z :: younger) (hz : z.gran = k) (holder : ∀ y ∈ older, y.gran ≠ k) :
    x.stagedBytes? k = if (pieceBytes z.pieces).length = touchedHi x.req.a x.req.len k - touchedLo x.req.a k
      then some (pieceBytes z.pieces) else none := by
  have hfind : x.staging.find? (fun z => z.gran == k) = some z := by
    rw [hstaging, List.find?_append, List.find?_eq_none.mpr fun y hy => by simpa using holder y hy]
    simp [hz]
  rw [Slot.stagedBytes?, hfind]
  rfl

theorem Slot.nextOp?_write {x : Slot} {k : Nat} (hnext : x.next = some k) (hkind : x.req.kind = .write) (st : Stride) :
    x.nextOp? st = (x.stagedBytes? k).map fun bytes => st.opAt (touchedBase x.req.a k)
      (storeKind x.req.a x.req.len k (placedBytes (touchedLo x.req.a k - touchedBase x.req.a k) bytes))
      (.slot x.num x.tag) := by
  rw [Slot.nextOp?, hkind]
  dsimp only
  rw [hnext]
  rfl

/-! ## The granules of a COPY (R116, R135) -/

/-- The granules that a run of at most 64 bytes touches are those of its first and its last byte. -/
theorem granule_of_run {a first last : Nat} (hle : first ≤ last) (hshort : last ≤ first + 63) (k : Nat) :
    (k = (a + first) / 64 - a / 64 ∨ k = (a + last) / 64 - a / 64)
      ↔ ∃ i, first ≤ i ∧ i ≤ last ∧ (a + i) / 64 = a / 64 + k := by
  constructor
  · rintro (rfl | rfl)
    · exact ⟨first, Nat.le_refl _, hle, by omega⟩
    · exact ⟨last, hle, Nat.le_refl _, by omega⟩
  · rintro ⟨i, hfirst, hlast, hk⟩
    have hlow : (a + first) / 64 ≤ (a + i) / 64 := Nat.div_le_div_right (by omega)
    have hhigh : (a + i) / 64 ≤ (a + last) / 64 := Nat.div_le_div_right (by omega)
    have hnear : (a + last) / 64 ≤ (a + first) / 64 + 1 := by omega
    omega

/-- The bytes of a destination granule, by their number in the copy. -/
theorem destination_bytes {b len j : Nat} (hlen : 0 < len) (hj : j < touchedCount b len) (i : Nat) :
    (touchedLo b j - b ≤ i ∧ i ≤ touchedHi b len j - b - 1) ↔ i < len ∧ (b + i) / 64 = b / 64 + j := by
  have hcount : j ≤ (b + len - 1) / 64 - b / 64 := Nat.le_of_lt_succ hj
  unfold touchedLo touchedHi touchedBase
  omega

/-- A source granule feeds a destination granule exactly when a byte of the copy lies in both. -/
theorem DataReq.mem_feeders {q : DataReq} {j : Nat} (hlen : 0 < q.len) (hj : j < q.destCount) (k : Nat) :
    k ∈ q.feeders j ↔ ∃ i, i < q.len ∧ (q.b + i) / 64 = q.b / 64 + j ∧ (q.a + i) / 64 = q.a / 64 + k := by
  have hcount : j ≤ (q.b + q.len - 1) / 64 - q.b / 64 := Nat.le_of_lt_succ hj
  have hordered : q.b < touchedHi q.b q.len j ∧ touchedLo q.b j < touchedHi q.b q.len j
      ∧ touchedHi q.b q.len j ≤ touchedLo q.b j + 64 := by
    unfold touchedLo touchedHi touchedBase
    omega
  have hend : q.a + (touchedHi q.b q.len j - q.b) - 1 = q.a + (touchedHi q.b q.len j - q.b - 1) := by omega
  have hmem : k ∈ q.feeders j ↔ k = (q.a + (touchedLo q.b j - q.b)) / 64 - q.a / 64
      ∨ k = (q.a + (touchedHi q.b q.len j - q.b - 1)) / 64 - q.a / 64 := by
    rw [DataReq.feeders, hend]
    split
    case isTrue he => rw [List.mem_singleton, ← he, or_self]
    case isFalse => rw [List.mem_cons, List.mem_singleton]
  rw [hmem, granule_of_run (by omega) (by omega)]
  simp only [← and_assoc, destination_bytes hlen hj]

/-- The ready list takes a destination operation at its place. -/
theorem insertReady_splits (j : Nat) (kind : OpKind) (ready : List (Nat × OpKind)) :
    ∃ l r, ready = l ++ r ∧ insertReady (j, kind) ready = l ++ (j, kind) :: r ∧ (∀ e ∈ l, e.1 ≤ j)
      ∧ ∀ e, r.head? = some e → j < e.1 := by
  induction ready with
  | nil => exact ⟨[], [], rfl, rfl, by simp, by simp⟩
  | cons y ready ih =>
    by_cases hlt : j < y.1
    · refine ⟨[], y :: ready, rfl, if_pos hlt, by simp, fun e he => ?_⟩
      rw [← Option.some.inj he]
      exact hlt
    · obtain ⟨l, r, hready, hinsert, hl, hr⟩ := ih
      refine ⟨y :: l, r, by rw [hready]; rfl, (if_neg hlt).trans (by rw [hinsert]; rfl), fun e he => ?_, hr⟩
      rcases List.mem_cons.mp he with rfl | he
      · exact Nat.le_of_not_lt hlt
      · exact hl e he

/-- The word of a destination granule comes from the kept source granule it is a copy of. -/
theorem DataReq.destData_word {q : DataReq} {kept older younger : List Kept} {z : Kept} {j w : Nat} (hw : w < 8)
    (hlow : q.b ≤ touchedBase q.b j + 8 * w) (hhigh : touchedBase q.b j + 8 * w < q.b + q.len)
    (hkept : kept = older ++ z :: younger)
    (hz : z.gran = (touchedBase q.b j + 8 * w - q.b + q.a) / 64 - q.a / 64) (holder : ∀ e ∈ older, e.gran ≠ z.gran) :
    blockWord (q.destData kept j) w = blockWord z.data ((touchedBase q.b j + 8 * w - q.b + q.a) % 64 / 8) := by
  have hfind : kept.find? (fun x => x.gran == (touchedBase q.b j + 8 * w - q.b + q.a) / 64 - q.a / 64) = some z := by
    rw [← hz, hkept, List.find?_append, List.find?_eq_none.mpr fun e he => by simpa using holder e he]
    simp
  rw [DataReq.destData, blockWord_blockOfWords _ hw]
  dsimp only
  rw [if_pos ⟨hlow, hhigh⟩, hfind]

/-- The kept results of a destination granule's source granules. -/
def Slot.feederResults (x : Slot) (j : Nat) : List Kept := x.copy.kept.filter fun z => (x.req.feeders j).contains z.gran

theorem Slot.mem_feederResults (x : Slot) (j : Nat) (z : Kept) :
    z ∈ x.feederResults j ↔ z ∈ x.copy.kept ∧ z.gran ∈ x.req.feeders j := by simp [Slot.feederResults]

/-- Every source granule of destination granule `j` has ended. -/
def Slot.fedAll (x : Slot) (j : Nat) : Prop := ∀ k ∈ x.req.feeders j, ∃ z ∈ x.copy.kept, z.gran = k

/-- What is kept after destination granule `j` has been decided. -/
def Slot.keptAfter (x : Slot) (j : Nat) : List Kept :=
  (x.copy.kept.map fun z => { z with feeds := z.feeds.filter fun i => i != j }).filter fun z => !z.feeds.isEmpty

theorem Slot.mem_keptAfter (x : Slot) (j : Nat) (z : Kept) : z ∈ x.keptAfter j ↔
    z.feeds ≠ [] ∧ ∃ w ∈ x.copy.kept, z = { w with feeds := w.feeds.filter fun i => i != j } := by
  rw [Slot.keptAfter, List.mem_filter, List.mem_map, Bool.not_eq_true', List.isEmpty_eq_false_iff, and_comm]
  simp only [eq_comm]

/-- The operation of a destination granule whose source granules have ended without CHANNEL_FAILED. -/
def Slot.destKind (x : Slot) (j : Nat) : OpKind :=
  if (x.feederResults j).any fun z => z.result == .tainted then .mark
  else storeKind x.req.b x.req.len j (x.req.destData x.copy.kept j)

theorem Slot.fedAll_iff (x : Slot) (j : Nat) :
    ((x.req.feeders j).all fun k => (x.feederResults j).any fun z => z.gran == k) = true ↔ x.fedAll j := by
  simp only [List.all_eq_true, List.any_eq_true, beq_iff_eq, Slot.mem_feederResults, Slot.fedAll]
  refine forall₂_congr fun k hk => ⟨fun ⟨z, ⟨hz, _⟩, hg⟩ => ⟨z, hz, hg⟩, fun ⟨z, hz, hg⟩ => ⟨z, ⟨hz, hg ▸ hk⟩, hg⟩⟩

theorem Slot.decideDest_waits {x : Slot} {j : Nat} (h : ¬x.fedAll j) : x.decideDest j = x := by
  rw [Slot.decideDest]
  dsimp only
  exact if_neg fun hall => h ((x.fedAll_iff j).mp hall)

theorem Slot.decideDest_decides {x : Slot} {j : Nat} (h : x.fedAll j) : x.decideDest j =
    if (x.feederResults j).any fun z => z.result == .channelFailed then
      { x with copy := { x.copy with kept := x.keptAfter j, done := x.copy.done + 1 } }
    else { x with copy := { x.copy with kept := x.keptAfter j, ready := insertReady (j, x.destKind j) x.copy.ready } } := by
  rw [Slot.decideDest]
  dsimp only
  exact if_pos ((x.fedAll_iff j).mpr h)

theorem Slot.feederResults_any (x : Slot) (j : Nat) (r : OpResult) :
    ((x.feederResults j).any fun z => z.result == r) = true
      ↔ ∃ z ∈ x.copy.kept, z.gran ∈ x.req.feeders j ∧ z.result = r := by
  simp only [List.any_eq_true, beq_iff_eq, Slot.mem_feederResults, and_assoc]

end Sys2Proof.Machine

open Sys2Proof Sys2Proof.Machine

/-- Settles O29. -/
theorem offeredOperation : Obligations.OfferedOperation := by
  refine ⟨fun x st k hnext => ?_, fun x st hkind => ?_, fun q j _ _ _ hlen hj k => DataReq.mem_feeders hlen hj k,
    fun x j => ?_⟩
  · intro a at_
    refine ⟨fun hkind => ?_, fun hkind => ?_, fun hkind hwhole => ?_, fun hkind hwhole => ?_, fun hkind hnone => ?_,
      fun older z younger hkind hstaging hz holder => ?_⟩
    · rw [Slot.nextOp?, hkind]; dsimp only; rw [hnext]; rfl
    · rw [Slot.nextOp?, hkind]; dsimp only; rw [hnext]; rfl
    · refine ⟨patternBlock x.req.pattern, ?_, fun w hw => blockWord_blockOfWords _ hw⟩
      rw [Slot.nextOp?, hkind]; dsimp only; rw [hnext, Option.map_some, storeKind_whole hwhole]; rfl
    · refine ⟨patternBlock x.req.pattern, ?_, fun w hw => blockWord_blockOfWords _ hw⟩
      rw [Slot.nextOp?, hkind]; dsimp only; rw [hnext, Option.map_some, storeKind_partial hwhole]; rfl
    · rw [Slot.nextOp?_write hnext hkind, Slot.stagedBytes?_none hnone]; rfl
    intro bytes lo len
    refine ⟨fun hlength => ?_, fun hlength hinside => ?_⟩
    · have hbytes : x.stagedBytes? k = none := by rw [Slot.stagedBytes?_eq hstaging hz holder]; exact if_neg hlength
      rw [Slot.nextOp?_write hnext hkind, hbytes]; rfl
    · have hbytes : x.stagedBytes? k = some bytes := by rw [Slot.stagedBytes?_eq hstaging hz holder]; exact if_pos hlength
      have hfits : lo - a + bytes.length ≤ 64 := by
        have hlo : a ≤ lo := Nat.le_max_right _ _
        have hlen : len ≤ a + 64 - lo := Nat.sub_le_sub_right (Nat.min_le_right _ _) _
        omega
      refine ⟨placedBytes (lo - a) bytes, hlength ▸ blockBytes_placedBytes hfits, fun hwhole => ?_, fun hwhole => ?_⟩
      · rw [Slot.nextOp?_write hnext hkind, hbytes, Option.map_some, storeKind_whole hwhole]; rfl
      · rw [Slot.nextOp?_write hnext hkind, hbytes, Option.map_some, storeKind_partial hwhole]; rfl
  · intro at_
    refine ⟨fun j kind rest hready => ?_, fun hready hsource => ?_, fun hready hsource => ?_⟩
    · rw [Slot.nextOp?, hkind]; dsimp only; rw [hready]; rfl
    · rw [Slot.nextOp?, hkind]; dsimp only; rw [hready]; dsimp only; rw [if_pos hsource]; rfl
    · rw [Slot.nextOp?, hkind]; dsimp only; rw [hready]; dsimp only; rw [if_neg (Nat.not_lt.mpr hsource)]
  · intro q y feeds ended failed tainted joins
    have hany := x.feederResults_any j
    refine ⟨Slot.decideDest_waits, fun hended => ?_, fun hended hfailed => ?_, fun hended hfailed => ?_⟩
    · have hy : y = _ := Slot.decideDest_decides hended
      constructor
      · rw [hy]; split <;> rfl
      · intro z
        rw [show y.copy.kept = x.keptAfter j by rw [hy]; split <;> rfl]
        exact x.mem_keptAfter j z
    · have hy : y = _ := Slot.decideDest_decides hended
      rw [if_pos ((hany _).mpr hfailed)] at hy
      rw [hy]
      exact ⟨rfl, rfl⟩
    · have hy : y = _ := Slot.decideDest_decides hended
      rw [if_neg fun h => hfailed ((hany _).mp h)] at hy
      have hready : y.copy.ready = insertReady (j, x.destKind j) x.copy.ready := by rw [hy]
      have hjoins : joins (x.destKind j) := by
        change ∃ l r, _ ∧ y.copy.ready = _ ∧ _
        rw [hready]
        exact insertReady_splits j _ _
      refine ⟨by rw [hy], fun htainted => ?_, fun htainted => ⟨q.destData x.copy.kept j, ?_, ?_⟩⟩
      · rwa [Slot.destKind, if_pos ((hany _).mpr htainted)] at hjoins
      · rwa [Slot.destKind, if_neg fun h => htainted ((hany _).mp h)] at hjoins
      · intro w hw at_ from_ hlow hhigh older z younger hkept hz holder
        exact DataReq.destData_word hw hlow hhigh hkept hz holder

end

section
/-! PROOF. An operation leaves its slot for its bank, and its result comes back. -/

namespace Sys2Proof.Machine

/-! ## Staging changes its own slot alone -/

/-- What asking for data, or its failure, keeps of a slot. -/
structure Slot.Asks (f : Slot → Slot) : Prop where
  num (x : Slot) : (f x).num = x.num
  issued (x : Slot) : (f x).issued = x.issued
  ended (x : Slot) : (f x).ended = x.ended
  held (x : Slot) : x.held = none → (f x).held = none
  completing (x : Slot) : x.state ≠ .completing → (f x).state ≠ .completing

theorem Slot.Asks.id : Slot.Asks fun x => x := ⟨fun _ => rfl, fun _ => rfl, fun _ => rfl, fun _ h => h, fun _ h => h⟩

theorem Slot.Asks.comp {f g : Slot → Slot} (hf : Slot.Asks f) (hg : Slot.Asks g) : Slot.Asks fun x => g (f x) :=
  ⟨fun x => (hg.num _).trans (hf.num x), fun x => (hg.issued _).trans (hf.issued x),
    fun x => (hg.ended _).trans (hf.ended x), fun x h => hg.held _ (hf.held x h),
    fun x h => hg.completing _ (hf.completing x h)⟩

theorem Slot.asks_askedOne : Slot.Asks Slot.askedOne :=
  ⟨fun _ => rfl, fun _ => rfl, fun _ => rfl, fun _ h => h, fun _ h => h⟩

theorem Slot.asks_stop : Slot.Asks fun x => { x.stop with hostAccess := true } :=
  ⟨fun _ => rfl, fun _ => rfl, fun _ => rfl, fun _ _ => rfl, fun x h => by
    change x.stop.state ≠ .completing
    rw [Slot.stop_state h]
    nofun⟩

/-- `k` differs from `h` in slot `n`, in the read places and in what was sent. -/
def HostSide.AsksOnly (n : SlotNo) (h k : HostSide) : Prop :=
  ∃ f o p, Slot.Asks f ∧ k = ((h.modifySlot n f).setOut o).setPort p

theorem HostSide.AsksOnly.refl (n : SlotNo) (h : HostSide) : HostSide.AsksOnly n h h :=
  ⟨fun x => x, h.out, h.port, .id, by rw [HostSide.modifySlot_id fun _ _ _ => rfl]; rfl⟩

theorem HostSide.AsksOnly.trans {n : SlotNo} {h k l : HostSide} (a : HostSide.AsksOnly n h k)
    (b : HostSide.AsksOnly n k l) : HostSide.AsksOnly n h l := by
  obtain ⟨f, o, p, hf, rfl⟩ := a
  obtain ⟨g, o', p', hg, rfl⟩ := b
  refine ⟨fun x => g (f x), o', p', hf.comp hg, ?_⟩
  rw [← HostSide.modifySlot_modifySlot h n hf.num g]
  rfl

theorem HostSide.asksOnly_modifySlot {f : Slot → Slot} (hf : Slot.Asks f) (n : SlotNo) (h : HostSide) :
    HostSide.AsksOnly n h (h.modifySlot n f) := ⟨f, h.out, h.port, hf, rfl⟩

theorem HostSide.asksOnly_askReads (n : SlotNo) (h : HostSide) (reads : List (Owner × Nat × Nat)) :
    HostSide.AsksOnly n h (h.askReads reads).1 := by
  obtain ⟨o, p, e⟩ := HostSide.askReads_eq reads h
  exact ⟨fun x => x, o, p, .id, by rw [e, HostSide.modifySlot_id fun _ _ _ => rfl]⟩

theorem HostSide.asksOnly_failSlot (n : SlotNo) (h : HostSide) : HostSide.AsksOnly n h (h.failSlot n) := by
  unfold HostSide.failSlot
  split
  · exact .refl n h
  · split
    · exact .refl n h
    · exact ⟨_, h.out, (h.abandonReads (Owner.ofSlot n)).port, Slot.asks_stop, rfl⟩

theorem HostSide.asksOnly_stage (k : Nat) (n : SlotNo) (h : HostSide) : HostSide.AsksOnly n h (h.stage k n) := by
  induction k generalizing h with
  | zero => exact .refl n h
  | succ k ih =>
    cases hx : h.tracker.slot? n with
    | none => rw [HostSide.stage, hx]; exact .refl n h
    | some x =>
      rw [HostSide.stage_succ hx]
      split
      case isFalse => exact .refl n h
      case isTrue =>
        have hasked := (HostSide.asksOnly_modifySlot Slot.asks_askedOne n h).trans
          (HostSide.asksOnly_askReads n _ (x.dataReads x.askNext))
        split
        case h_1 h' he => rw [he] at hasked; exact hasked.trans (ih h')
        case h_2 h' he => rw [he] at hasked; exact hasked.trans (h'.asksOnly_failSlot n)

/-- A slot that asks for no data asks for none. -/
theorem HostSide.stage_noWrite {h : HostSide} {n : SlotNo} {x : Slot} (hx : h.tracker.slot? n = some x)
    (hwrite : x.req.kind ≠ .write) (k : Nat) : h.stage k n = h := by
  cases k with
  | zero => rfl
  | succ k =>
    have hwants : x.wantsData = false := by simp [Slot.wantsData, hwrite]
    rw [HostSide.stage_succ hx, hwants]
    rfl

/-- A change of one slot that leaves it not ready to complete. -/
theorem HostSide.quiescent_modifySlot {h : HostSide} (q : h.quiescent) (hsafe : h.tracker.safe) {n : SlotNo} {x : Slot}
    (hx : h.tracker.slot? n = some x) {f : Slot → Slot} (hstate : (f x).state ≠ .completing)
    (hops : (f x).state = .awaiting → (f x).ended ≠ (f x).issued) : (h.modifySlot n f).quiescent := by
  refine ⟨fun y hy => ?_, q.2⟩
  obtain ⟨z, hz, rfl⟩ := List.mem_map.mp hy
  split
  case isTrue hn => rw [Tracker.slot?_unique hsafe hx hz hn]; exact ⟨hstate, hops⟩
  case isFalse => exact q.1 z hz

/-! ## A slot after an issue (R133 to R136) -/

theorem Slot.checkIssued_state {x : Slot} (hx : x.state ≠ .completing) : x.checkIssued.state ≠ .completing := by
  unfold Slot.checkIssued
  split
  · nofun
  · exact hx

theorem Slot.checkIssued_counts (x : Slot) : x.checkIssued.issued = x.issued ∧ x.checkIssued.ended = x.ended
    ∧ x.checkIssued.held = x.held := by
  unfold Slot.checkIssued
  split <;> exact ⟨rfl, rfl, rfl⟩

theorem Slot.afterIssue_counts (x : Slot) (st : Stride) (o : BankOp) : (x.afterIssue st o).issued = x.issued + 1
    ∧ (x.afterIssue st o).ended = x.ended ∧ (x.afterIssue st o).held = none := by
  rw [Slot.afterIssue]
  dsimp only
  obtain ⟨hissued, hended, hheld⟩ := Slot.checkIssued_counts
    (if x.isDest o = true then _ else if x.req.kind = .copy then _ else _)
  rw [hissued, hended, hheld]
  split
  · exact ⟨rfl, rfl, rfl⟩
  · split
    · exact ⟨rfl, rfl, rfl⟩
    · split <;> exact ⟨rfl, rfl, rfl⟩

theorem Slot.afterIssue_state {x : Slot} (hx : x.state ≠ .completing) (st : Stride) (o : BankOp) :
    (x.afterIssue st o).state ≠ .completing := by
  rw [Slot.afterIssue]
  refine Slot.checkIssued_state ?_
  split
  · exact hx
  · split
    · exact hx
    · split <;> exact hx

/-- A slot of no COPY goes on to the next granule. -/
theorem Slot.afterIssue_goesOn {x : Slot} {k : Nat} (hnext : x.next = some k) (hmore : k + 1 < x.req.count)
    (hcopy : x.req.kind ≠ .copy) (st : Stride) (o : BankOp) : x.afterIssue st o = { x with
      issued := x.issued + 1, held := none, next := some (k + 1), staging := x.staging.filter fun y => y.gran != k } := by
  have hdest : x.isDest o = false := by simp [Slot.isDest, hcopy]
  rw [Slot.afterIssue, hdest, if_neg (by nofun), if_neg hcopy, hnext]
  dsimp only
  rw [if_pos hmore, Slot.checkIssued, if_neg]
  rintro ⟨_, hall⟩
  simp [Slot.allIssued, hcopy] at hall

/-! ## The issue of an operation (R38, R133, R134) -/

theorem Slot.nextOp?_issuer {x : Slot} {st : Stride} {o : BankOp} (ho : x.nextOp? st = some o) :
    o.issuer = .slot x.num x.tag := by
  unfold Slot.nextOp? at ho
  dsimp only at ho
  split at ho
  · obtain ⟨_, _, rfl⟩ := Option.map_eq_some_iff.mp ho; rfl
  · obtain ⟨_, _, rfl⟩ := Option.map_eq_some_iff.mp ho; rfl
  · obtain ⟨_, _, rfl⟩ := Option.map_eq_some_iff.mp ho; rfl
  · obtain ⟨_, _, hbytes⟩ := Option.bind_eq_some_iff.mp ho
    obtain ⟨_, _, rfl⟩ := Option.map_eq_some_iff.mp hbytes
    rfl
  · split at ho
    · cases ho; rfl
    · split at ho
      · cases ho; rfl
      · nomatch ho

theorem exec_issue_admitted {s : State} {n : SlotNo} {x : Slot} {o : BankOp} (hx : s.host.tracker.slot? n = some x)
    (hissuing : x.state = .issuing) (hheld : x.held = none) (ho : x.nextOp? s.pool.control.stride = some o)
    (hadmits : s.pool.admits o.bank = true) :
    exec (.issueGranuleOperation n) s = .next ((s.placeOp n o).setHost (s.placeOp n o).host.settle) := by
  change Host.Outcome.next (s.issue n) = _
  rw [State.issue, hx]
  dsimp only
  rw [if_pos ⟨hissuing, hheld⟩, ho]
  dsimp only
  rw [if_pos hadmits]

theorem PoolSide.bankFailed_iff (p : PoolSide) (b : BankNo) : p.bankFailed b = true ↔ p.channels[bankChannel b] = .failed := by
  simp [PoolSide.bankFailed]

/-- The tracker after an operation of slot `n` has left for its bank. -/
def Tracker.countIssue (t : Tracker) (n : SlotNo) : Tracker :=
  { t with outstanding := t.outstanding.set n (t.outstanding[n] + 1), opsOut := t.opsOut + 1 }

/-- The tracker after a result for slot number `n` has come back. -/
def Tracker.countBack (t : Tracker) (n : SlotNo) : Tracker :=
  { t with outstanding := t.outstanding.set n (t.outstanding[n] - 1), opsOut := t.opsOut - 1 }

theorem HostSide.issued_eq (h : HostSide) (st : Stride) (n : SlotNo) (o : BankOp) : h.issued st n o =
    (((h.setTracker (h.tracker.countIssue n)).modifySlot n fun x => x.afterIssue st o)).stage 16 n := rfl

theorem PoolSide.takeOp_eq (p : PoolSide) (b : BankNo) (o : BankOp) : p.takeOp b o =
    { op := o, source := p.lookup b o.row
      mig := (p.bank b).record.bind fun m => if m.row = o.row then some (m.target, m.cursor) else none } := by
  rw [PoolSide.takeOp]
  cases (p.bank b).record <;> rfl

/-- The arrival of an operation at its bank. -/
theorem PoolSide.arrive_bank (p : PoolSide) (o : BankOp) : p.arrive o = p.setBank o.bank
    (if (p.bank o.bank).cur = none then
      { p.bank o.bank with
        state := .working, openRow := some o.row, retry := 0
        cur := some { op := o, source := p.lookup o.bank o.row
                      mig := (p.bank o.bank).record.bind fun m =>
                        if m.row = o.row then some (m.target, m.cursor) else none } }
    else { p.bank o.bank with waiting := (p.bank o.bank).waiting ++ [o] }) := by
  rw [PoolSide.arrive]
  dsimp only
  cases hcur : (p.bank o.bank).cur with
  | none =>
    rw [Option.isNone_none, if_pos rfl, if_pos rfl, PoolSide.beginOp, PoolSide.takeOp_eq]
  | some ip => rw [if_neg (by nofun), if_neg (by nofun)]

/-! ## A result comes back (R129, R139) -/

theorem HostSide.resultBack_discarded {h : HostSide} {e : OpEnd} {n : SlotNo} {tag : SlotTag}
    (he : e.op.issuer = .slot n tag) (hother : ∀ x, h.tracker.slot? n = some x → x.tag ≠ tag) (st : Stride) :
    h.resultBack st e = h.setTracker (h.tracker.countBack n) := by
  rw [HostSide.resultBack, he]
  dsimp only
  cases hx : h.tracker.slot? n with
  | none => rfl
  | some x => exact if_neg (hother x hx)

theorem HostSide.resultBack_gathered {h : HostSide} {e : OpEnd} {n : SlotNo} {x : Slot} (he : e.op.issuer = .slot n x.tag)
    (hx : h.tracker.slot? n = some x) (st : Stride) :
    h.resultBack st e = (h.setTracker (h.tracker.countBack n)).gather st x e := by
  rw [HostSide.resultBack, he]
  dsimp only
  rw [hx]
  exact if_pos rfl

theorem Slot.opAddress_noCopy {x : Slot} (hcopy : x.req.kind ≠ .copy) (st : Stride) (o : BankOp) :
    x.opAddress st o = max x.req.a (st.address o.bank o.row o.gran 0) := by
  have hdest : x.isDest o = false := by simp [Slot.isDest, hcopy]
  rw [Slot.opAddress, hdest]
  rfl

/-- A result that brings no data is counted. -/
theorem HostSide.gather_counts {h : HostSide} {x : Slot} (hread : x.req.kind ≠ .read) (hcopy : x.req.kind ≠ .copy)
    (st : Stride) (e : OpEnd) : h.gather st x e =
      h.modifySlot x.num fun y => y.count (max x.req.a (st.address e.op.bank e.op.row e.op.gran 0)) e.result := by
  rw [HostSide.gather, Slot.opAddress_noCopy hcopy]
  rw [if_neg fun h => hcopy h.1, if_neg fun h => hread h.1]

theorem Slot.count_eq (y : Slot) (addr : Nat) (r : OpResult) : y.count addr r = { y with
    ended := y.ended + 1, done := y.done + (if r = .channelFailed then 0 else 1)
    corrected := y.corrected + (if r = .corrected then 1 else 0)
    tainted := y.tainted + (if r = .tainted then 1 else 0)
    channelFailed := y.channelFailed || decide (r = .channelFailed)
    failAddr := if r = .tainted ∨ r = .channelFailed then
      some (match y.failAddr with | none => addr | some f => min f addr) else y.failAddr } := by
  cases r <;> rfl

theorem Tracker.countBack_countIssue (t : Tracker) (n : SlotNo) : (t.countIssue n).countBack n = t := by
  simp [Tracker.countBack, Tracker.countIssue]

end Sys2Proof.Machine

open Sys2Proof Sys2Proof.Machine

/-- Settles O30. -/
theorem issueAdmitted : Obligations.IssueAdmitted := by
  intro s n x o hsafe hquiet hx hissuing hheld hops ho hactive hroom k
  obtain ⟨hmem, hnum⟩ := Tracker.mem_of_slot? hx
  have hbank : s.pool.bankFailed o.bank = false := by rw [PoolSide.bankFailed, hactive]; rfl
  have hadmits : s.pool.admits o.bank = true := by
    have hgeneral : (s.pool.bank o.bank).hasGeneral = true := decide_eq_true hroom
    rw [PoolSide.admits, hgeneral, Bool.or_true]
  have hplaced : s.placeOp n o = (s.setHost (s.host.issued s.pool.control.stride n o)).setPool (s.pool.arrive o) := by
    rw [State.placeOp, if_neg (by rw [hbank]; nofun)]
  obtain ⟨f, out, port, hf, hstaged⟩ := HostSide.asksOnly_stage 16 n
    ((s.host.setTracker (s.host.tracker.countIssue n)).modifySlot n fun x => x.afterIssue s.pool.control.stride o)
  have hafter := fun y : Slot => (y.afterIssue_kept s.pool.control.stride o).1
  rw [HostSide.modifySlot_modifySlot _ n hafter] at hstaged
  let g : Slot → Slot := fun y => f (y.afterIssue s.pool.control.stride o)
  have hg : ∀ y, (g y).num = y.num := fun y => (hf.num _).trans (hafter y)
  let h := (s.host.setTracker (s.host.tracker.countIssue n)).modifySlot n g
  have hissued : s.host.issued s.pool.control.stride n o = (h.setOut out).setPort port := hstaged
  obtain ⟨hcount, hended, hnone⟩ := x.afterIssue_counts s.pool.control.stride o
  have hgx : (g x).issued = x.issued + 1 ∧ (g x).ended = x.ended ∧ (g x).held = none :=
    ⟨(hf.issued _).trans hcount, (hf.ended _).trans hended, hf.held _ hnone⟩
  have hsettled : ((h.setOut out).setPort port).settle = (h.setOut out).setPort port := by
    have hstill : h.quiescent := HostSide.quiescent_modifySlot (h := s.host.setTracker (s.host.tracker.countIssue n)) hquiet
      hsafe hx (hf.completing _ (Slot.afterIssue_state (by rw [hissuing]; nofun) _ _))
      fun _ => by obtain ⟨hi, he, _⟩ := hgx; omega
    exact HostSide.settle_quiescent hstill
  have hslot : ∀ m, h.tracker.slot? m = (s.host.tracker.slot? m).map fun y => if m = n then g y else y :=
    fun m => HostSide.slot?_modifySlot (h := s.host.setTracker (s.host.tracker.countIssue n)) hg m
  have hexec : exec (.issueGranuleOperation n) s =
      .next ((s.setHost ((h.setOut out).setPort port)).setPool (s.pool.arrive o)) := by
    rw [exec_issue_admitted hx hissuing hheld ho hadmits, hplaced, hissued]
    exact congrArg (fun k => Host.Outcome.next ((s.setHost k).setPool (s.pool.arrive o))) hsettled
  refine ⟨_, g x, hexec, s.pool.arrive_bank o, ?_, hgx.1, hgx.2.1, hgx.2.2, fun m hm => ?_, rfl, rfl, rfl, rfl, rfl, rfl⟩
  · refine (hslot n).trans ?_
    rw [hx, Option.map_some, if_pos rfl]
  · refine (hslot m).trans ?_
    simp [hm]

/-- Settles O32. -/
theorem issueToFailedChannel : Obligations.IssueToFailedChannel := by
  intro s n x k hsafe hquiet hx hissuing hheld hkind hnext hmore a lo hfailed
  obtain ⟨hmem, hnum⟩ := Tracker.mem_of_slot? hx
  let st := s.pool.control.stride
  let o := st.opAt a .check (.slot x.num x.tag)
  have ho : x.nextOp? st = some o := by
    rw [Slot.nextOp?, hkind]; dsimp only; rw [hnext]; rfl
  have hbank : s.pool.bankFailed o.bank = true := (s.pool.bankFailed_iff _).mpr hfailed
  have hcopy : x.req.kind ≠ .copy := by rw [hkind]; nofun
  let e : OpEnd := { op := o, result := .channelFailed, data := 0 }
  let x1 : Slot := x.afterIssue st o
  have hx1 : x1 = _ := Slot.afterIssue_goesOn hnext hmore hcopy st o
  have hkept : x1.num = n ∧ x1.tag = x.tag ∧ x1.req = x.req := by rw [hx1]; exact ⟨hnum, rfl, rfl⟩
  obtain ⟨hnum1, htag1, hreq1⟩ := hkept
  have hafter := fun y : Slot => (y.afterIssue_kept st o).1
  let h1 := (s.host.setTracker (s.host.tracker.countIssue n)).modifySlot n fun y => y.afterIssue st o
  have hslot1 : h1.tracker.slot? n = some x1 := by
    refine (HostSide.slot?_modifySlot (h := s.host.setTracker (s.host.tracker.countIssue n)) hafter n).trans ?_
    change (s.host.tracker.slot? n).map _ = _
    rw [hx, Option.map_some, if_pos rfl]
  have hissued : s.host.issued st n o = h1 :=
    HostSide.stage_noWrite hslot1 (by rw [hreq1, hkind]; nofun) 16
  let g : Slot → Slot := fun y => (y.afterIssue st o).count lo .channelFailed
  let h := s.host.modifySlot n g
  have hback : h1.resultBack st e = h := by
    rw [HostSide.resultBack_gathered (n := n) (x := x1) (by rw [htag1, ← hnum]; rfl) hslot1,
      HostSide.gather_counts (by rw [hreq1, hkind]; nofun) (by rw [hreq1]; exact hcopy), hnum1, hreq1]
    have hcounts : h1.setTracker (h1.tracker.countBack n) = s.host.modifySlot n fun y => y.afterIssue st o := by
      have htracker := s.host.tracker.countBack_countIssue n
      exact congrArg (fun t : Tracker => s.host.setTracker { t with slots := h1.tracker.slots }) htracker
    rw [hcounts, HostSide.modifySlot_modifySlot _ n hafter]
    rfl
  have hgx : g x = { x with
      issued := x.issued + 1, ended := x.ended + 1, next := some (k + 1), channelFailed := true
      failAddr := some (match x.failAddr with | none => lo | some f => min f lo)
      staging := x.staging.filter fun y => y.gran != k } := by
    change x1.count lo .channelFailed = _
    rw [hx1, Slot.count_eq]
    simp [hheld]
  have hsettled : h.settle = h := HostSide.settle_quiescent
    (HostSide.quiescent_modifySlot hquiet hsafe hx (by rw [hgx, hissuing]; nofun) (by rw [hgx, hissuing]; nofun))
  have hplaced : s.placeOp n o = s.setHost h := by
    rw [State.placeOp, if_pos hbank]
    change s.setHost ((s.host.issued st n o).resultBack st e) = _
    rw [hissued, hback]
  have hexec : exec (.issueGranuleOperation n) s = .next (s.setHost h) := by
    rw [exec_issue_admitted hx hissuing hheld ho (by rw [PoolSide.admits, hbank, Bool.true_or]), hplaced]
    exact congrArg (fun k => Host.Outcome.next (s.setHost k)) hsettled
  refine ⟨_, hexec, rfl, ?_, rfl, rfl, rfl⟩
  refine (HostSide.slot?_modifySlot (f := g) (fun y => hafter y) n).trans ?_
  rw [hx, Option.map_some, if_pos rfl]
  exact congrArg some hgx

/-- Settles O33. -/
theorem resultComesBack : Obligations.ResultComesBack := by
  intro h st e n tag he lo fails back
  refine ⟨fun hother => HostSide.resultBack_discarded he hother st, fun x hx htag hread hcopy => ?_⟩
  rw [HostSide.resultBack_gathered (htag ▸ he) hx, HostSide.gather_counts hread hcopy, (Tracker.mem_of_slot? hx).2]
  exact congrArg (fun f => HostSide.modifySlot back n f) (funext fun y => y.count_eq (lo x) e.result)

end

section
/-! PROOF. READ data delivered to host buffers, and the completion of a slot. -/

namespace Sys2Proof.Machine

/-! ## Buffers of a list (R106) -/

/-- The lengths of the first `k` entries of a list. -/
def listBefore (es : List ListEntry) (k : Nat) : Nat := ((es.take k).map (·.len)).sum

theorem listBefore_succ (e : ListEntry) (es : List ListEntry) (k : Nat) :
    listBefore (e :: es) (k + 1) = e.len + listBefore es k := by
  rw [listBefore, List.take_succ_cons, List.map_cons, List.sum_cons, listBefore]

theorem listSegments_zero (es : List ListEntry) (off : Nat) : listSegments es off 0 = [] := by
  cases es with
  | nil => rfl
  | cons e es => exact if_pos rfl

theorem listSegments_inside {e : ListEntry} {off len : Nat} (hlen : len ≠ 0) (hoff : off < e.len) (es : List ListEntry) :
    listSegments (e :: es) off len =
      (e.host + off, min len (e.len - off)) :: listSegments es 0 (len - min len (e.len - off)) := by
  rw [listSegments, if_neg hlen, if_pos hoff]

theorem listSegments_beyond {e : ListEntry} {off len : Nat} (hlen : len ≠ 0) (hoff : e.len ≤ off) (es : List ListEntry) :
    listSegments (e :: es) off len = listSegments es (off - e.len) len := by
  rw [listSegments, if_neg hlen, if_neg (Nat.not_lt.mpr hoff)]

/-- The buffers hold as many bytes as asked for, none of them empty. -/
theorem listSegments_total {es : List ListEntry} {off len : Nat} (hfits : off + len ≤ (es.map (·.len)).sum) :
    ((listSegments es off len).map Prod.snd).sum = len ∧ ∀ p ∈ listSegments es off len, 0 < p.2 := by
  induction es generalizing off len with
  | nil =>
    have : len = 0 := by simp only [List.map_nil, List.sum_nil] at hfits; omega
    rw [this]
    exact ⟨rfl, nofun⟩
  | cons e es ih =>
    rw [List.map_cons, List.sum_cons] at hfits
    rcases Nat.eq_zero_or_pos len with hzero | hpos
    · rw [hzero, listSegments_zero]
      exact ⟨rfl, nofun⟩
    · by_cases hoff : off < e.len
      · rw [listSegments_inside (Nat.ne_of_gt hpos) hoff]
        obtain ⟨hsum, hsome⟩ := ih (off := 0) (len := len - min len (e.len - off)) (by omega)
        refine ⟨by rw [List.map_cons, List.sum_cons, hsum]; dsimp only; omega, fun p hp => ?_⟩
        rcases List.mem_cons.mp hp with rfl | hp
        · dsimp only; omega
        · exact hsome p hp
      · rw [listSegments_beyond (Nat.ne_of_gt hpos) (Nat.not_lt.mp hoff)]
        exact ih (by omega)

theorem length_bufferAddresses (ps : List (Nat × Nat)) : (bufferAddresses ps).length = (ps.map Prod.snd).sum := by
  simp [bufferAddresses, List.length_flatMap]

/-- Request byte `i` lies in the entry whose bytes it is among, at the entry's address plus the rest. -/
theorem listSegments_address {es : List ListEntry} {off len i k : Nat} {e : ListEntry} (hi : i < len)
    (hk : es[k]? = some e) (hlow : listBefore es k ≤ off + i) (hhigh : off + i < listBefore es (k + 1)) :
    (bufferAddresses (listSegments es off len))[i]? = some (e.host + (off + i - listBefore es k)) := by
  induction es generalizing off len i k with
  | nil => nomatch hk
  | cons f es ih =>
    have hpos : len ≠ 0 := by omega
    by_cases hoff : off < f.len
    · rw [listSegments_inside hpos hoff, bufferAddresses, List.flatMap_cons]
      change ((List.range (min len (f.len - off))).map (f.host + off + ·) ++ bufferAddresses _)[i]? = _
      cases k with
      | zero =>
        cases hk
        rw [listBefore_succ] at hhigh
        have hin : i < min len (e.len - off) := by
          have : listBefore es 0 = 0 := rfl
          omega
        rw [List.getElem?_append_left (by simpa using hin), List.getElem?_map, List.getElem?_range hin]
        exact congrArg some (Nat.add_assoc _ _ _)
      | succ k =>
        rw [listBefore_succ] at hlow hhigh ⊢
        have hout : min len (f.len - off) ≤ i := by omega
        rw [List.getElem?_append_right (by simpa using hout), List.length_map, List.length_range,
          ih (off := 0) (i := i - min len (f.len - off)) (k := k) (by omega) hk (by omega) (by omega)]
        congr 2
        omega
    · rw [listSegments_beyond hpos (Nat.not_lt.mp hoff)]
      cases k with
      | zero =>
        have : listBefore es 0 = 0 := rfl
        rw [listBefore_succ] at hhigh
        omega
      | succ k =>
        rw [listBefore_succ] at hlow hhigh ⊢
        rw [ih hi hk (by omega) (by omega)]
        congr 2
        omega

/-! ## The posted writes of READ data (R114, R137) -/

/-- Bytes cut to buffers fill them in order. -/
theorem cutBytes_parts {ps : List (Nat × Nat)} {bytes : List Byte} (hlength : (ps.map Prod.snd).sum = bytes.length) :
    ∃ parts : List (List Byte), parts.map List.length = ps.map Prod.snd ∧ parts.flatten = bytes
      ∧ cutBytes ps bytes = List.zipWith (fun p b => (p.1, b)) ps parts := by
  induction ps generalizing bytes with
  | nil => exact ⟨[], rfl, (List.length_eq_zero_iff.mp hlength.symm).symm, rfl⟩
  | cons p ps ih =>
    rw [List.map_cons, List.sum_cons] at hlength
    obtain ⟨parts, hlengths, hflat, hcut⟩ := ih (bytes := bytes.drop p.2) (by rw [List.length_drop]; omega)
    refine ⟨bytes.take p.2 :: parts, ?_, ?_, ?_⟩
    · rw [List.map_cons, List.map_cons, hlengths, List.length_take, Nat.min_eq_left (by omega)]
    · rw [List.flatten_cons, hflat, List.take_append_drop]
    · rw [cutBytes, hcut, List.zipWith_cons_cons]

/-- Writes inside the window are all made. -/
theorem HostSide.deliver_inside {ws : List (Nat × List Byte)} {h : HostSide} (n : SlotNo)
    (hin : ∀ w ∈ ws, h.port.inWindow w.1 w.2.length = true) :
    h.deliver n ws = h.setOut (h.out ++ ws.map fun w => .write w.1 w.2) := by
  induction ws generalizing h with
  | nil => rw [HostSide.deliver, List.map_nil, List.append_nil]; rfl
  | cons w ws ih =>
    obtain ⟨hw, hrest⟩ := List.forall_mem_cons.mp hin
    have hpost : h.postWrite w.1 w.2 = (h.setOut (h.out ++ [LinkMsg.write w.1 w.2]), true) := if_pos hw
    rw [HostSide.deliver, hpost]
    dsimp only
    rw [ih (h := h.setOut (h.out ++ [LinkMsg.write w.1 w.2])) hrest, HostSide.setOut_out, List.map_cons,
      List.append_assoc]
    rfl

theorem length_blockBytes (r : Block) (off n : Nat) : (blockBytes r off n).length = n := length_natToBytes _ _

/-- What a READ result sends: the writes of its granule's bytes. -/
theorem HostSide.resultBack_read_out {h : HostSide} {st : Stride} {e : OpEnd} {n : SlotNo} {x : Slot}
    (he : e.op.issuer = .slot n x.tag) (hx : h.tracker.slot? n = some x) (hkind : x.req.kind = .read)
    (haccess : x.hostAccess = false) (haborted : x.aborted = false) (hresult : e.result ≠ .channelFailed) {addr : Nat}
    (haddr : x.opAddress st e.op = addr)
    (hin : ∀ w ∈ x.delivery addr e.data, h.port.inWindow w.1 w.2.length = true) :
    (h.resultBack st e).out = h.out ++ (x.delivery addr e.data).map fun w => .write w.1 w.2 := by
  rw [HostSide.resultBack_gathered he hx, HostSide.gather]
  rw [haddr, if_neg (by rw [hkind]; exact fun h => nomatch h.1), if_pos ⟨hkind, hresult, haccess, haborted⟩,
    HostSide.deliver_inside (h := h.setTracker (h.tracker.countBack n)) x.num hin]
  rfl

/-! ## A slot completes, and the fence behind it (R130, R140, R141) -/

/-- The slot at the front of the intake order completes: the others stay, and the fence of its ring is looked at. -/
theorem HostSide.completeSlot_front {h : HostSide} {x : Slot} {rest : List Slot} (hslots : h.tracker.slots = x :: rest)
    (hrest : ∀ y ∈ rest, y.num ≠ x.num) : h.completeSlot x =
      (((h.handOver x.completion).setTracker { h.tracker with slots := rest }).releaseFence x.ring) := by
  let completing := h.modifySlot x.num fun y => { y with state := .completing }
  have hmodified : completing.tracker.slots = { x with state := .completing } :: rest := by
    change h.tracker.slots.map _ = _
    rw [hslots, List.map_cons, if_pos rfl]
    congr 1
    conv => rhs; rw [← List.map_id rest]
    exact List.map_congr_left fun y hy => if_neg (hrest y hy)
  have hfilter : completing.tracker.slots.filter (fun y => y.num != x.num) = rest := by
    rw [hmodified, List.filter_cons, if_neg (by simp), List.filter_eq_self]
    simpa using hrest
  have hhanded : completing.handOver x.completion = (h.handOver x.completion).setTracker completing.tracker :=
    (HostSide.handOver_setTracker h x.completion completing.tracker).symm
  rw [HostSide.completeSlot, HostSide.freeSlot]
  change HostSide.releaseFence ((completing.handOver x.completion).setTracker { (completing.handOver x.completion).tracker with
    slots := (completing.handOver x.completion).tracker.slots.filter fun y => y.num != x.num }) x.ring = _
  rw [HostSide.handOver_tracker, hfilter, hhanded]
  rfl

/-- With no earlier slot of its ring left, a FENCED slot goes on. -/
theorem HostSide.releaseFence_single {h : HostSide} {y : Slot} (hslots : h.tracker.slots = [y]) (hfenced : y.state = .fenced)
    (ring : RingId) : h.releaseFence ring = if y.ring = ring then h.beginWork y.num else h := by
  rw [HostSide.releaseFence, hslots]
  by_cases hring : y.ring = ring
  · rw [List.find?_cons_of_pos (by simpa using hring), if_pos hring]
    exact if_pos hfenced
  · rw [List.find?_cons_of_neg (by simpa using hring), if_neg hring]
    rfl

/-- Two slots of which the first has ended: it completes, and the other is then looked at. -/
theorem HostSide.settle_pair {h k : HostSide} {x y z : Slot} (hslots : h.tracker.slots = [x, y])
    (hready : h.slotReady x = true) (hcomplete : h.completeSlot x = k) (hk : k.tracker.slots = [z])
    (hquiet : z.state ≠ .completing ∧ z.state ≠ .awaiting) (hconfig : ∀ id ring j, k.config ≠ .drainWait id ring j) :
    h.settle = k := by
  have hz : k.slotReady z = false := by
    obtain ⟨hc, ha⟩ := hquiet
    simp [HostSide.slotReady, hc, ha]
  have hone : k.settleSlots 1 = k := by
    rw [HostSide.settleSlots, hk, List.find?_cons_of_neg (by rw [hz]; nofun)]
    rfl
  have htwo : h.settleSlots 2 = k := by
    rw [HostSide.settleSlots, hslots, List.find?_cons_of_pos hready]
    dsimp only
    rw [hcomplete, hone]
  rw [HostSide.settle, hslots]
  change (h.settleSlots 2).endDrain = _
  rw [htwo, HostSide.endDrain]
  split
  case h_1 id ring j hwait => exact absurd hwait (hconfig id ring j)
  · rfl
  · rfl

end Sys2Proof.Machine

open Sys2Proof Sys2Proof.Machine

/-- Settles O34. -/
theorem readDataDelivered : Obligations.ReadDataDelivered := by
  refine ⟨fun h st e n x he hx hkind haccess haborted hresult => ?delivered, fun es off len hfits => ?addresses⟩
  case addresses =>
    obtain ⟨htotal, hsome⟩ := listSegments_total hfits
    intro addresses before
    exact ⟨(length_bufferAddresses _).trans htotal, hsome, fun i k e hi hk hlow hhigh => listSegments_address hi hk hlow hhigh⟩
  case delivered =>
    intro base lo len bytes buffers hbase hlo haligned hlen
    have haddr : x.opAddress st e.op = lo := Slot.opAddress_noCopy (by rw [hkind]; nofun) st e.op
    have hgranule : lo / 64 * 64 = base := by omega
    have hdelivery : x.delivery lo e.data = cutBytes (x.req.segments x.list (lo - x.req.a) len) bytes := by
      rw [Slot.delivery, hgranule]
    have hbytes : bytes.length = len := length_blockBytes _ _ _
    refine ⟨fun hnoList hin => ?_, fun hlist hsum hin => ?_⟩
    · have hone : x.delivery lo e.data = [(x.req.host + (lo - x.req.a), bytes)] := by
        rw [hdelivery, DataReq.segments, hnoList, if_neg (by nofun), cutBytes, cutBytes,
          List.take_of_length_le (Nat.le_of_eq hbytes)]
      rw [HostSide.resultBack_read_out he hx hkind haccess haborted hresult haddr, hone]
      · rfl
      · rw [hone]
        intro w hw
        rw [List.mem_singleton.mp hw, hbytes]
        exact hin
    · have hfits : lo - x.req.a + len ≤ (x.list.map (·.len)).sum := by
        have hlow : x.req.a ≤ lo := Nat.le_max_left _ _
        have hlen' : len ≤ x.req.a + x.req.len - lo := Nat.sub_le_sub_right (Nat.min_le_left _ _) _
        omega
      obtain ⟨parts, hlengths, hflat, hcut⟩ := cutBytes_parts (ps := buffers) (bytes := bytes)
        (by rw [(listSegments_total hfits).1, hbytes])
      have hmany : x.delivery lo e.data = List.zipWith (fun p b => (p.1, b)) buffers parts := by
        rw [hdelivery, DataReq.segments, hlist, if_pos rfl]
        exact hcut
      refine ⟨parts, hlengths, hflat, ?_⟩
      rw [HostSide.resultBack_read_out he hx hkind haccess haborted hresult haddr, hmany]
      · rw [List.map_zipWith]
      · rw [hmany]
        intro w hw
        obtain ⟨i, hi, rfl⟩ := List.getElem_of_mem hw
        rw [List.length_zipWith, Nat.lt_min] at hi
        have hpart : parts[i].length = buffers[i].2 := by
          have := congrArg (fun l => l[i]?) hlengths
          simpa [List.getElem?_eq_getElem hi.1, List.getElem?_eq_getElem hi.2] using this
        rw [List.getElem_zipWith]
        dsimp only
        rw [hpart]
        exact hin _ (List.getElem_mem hi.1)

/-- Settles O35. -/
theorem slotCompletion : Obligations.SlotCompletion := by
  intro h x hawaiting hended hreads hconfig status handed
  have hready : h.slotReady x = true := by
    rw [HostSide.slotReady, hawaiting, hended, hreads]
    simp
  have hhanded : h.handOver x.completion = handed := rfl
  refine ⟨fun hslots => ?alone, fun y hslots hne hfenced => ?pair⟩
  case alone =>
    refine ⟨h.settle, rfl, ?_⟩
    rw [HostSide.settle_single hslots hready hconfig, hhanded]
    exact ⟨rfl, rfl, rfl, rfl⟩
  case pair =>
    intro left
    let k := handed.setTracker { h.tracker with slots := [y] }
    have hcomplete : h.completeSlot x = if y.ring = x.ring then k.beginWork y.num else k := by
      rw [HostSide.completeSlot_front hslots (by simpa using hne), hhanded]
      exact HostSide.releaseFence_single (h := k) rfl hfenced x.ring
    have hkconfig : k.config = h.config := HostSide.handOver_config _ _
    have hkport : k.port = h.port := HostSide.handOver_port _ _
    have hy : k.tracker.slot? y.num = some y := HostSide.slot?_single (h := k) rfl
    have hsettled : ∀ (l : HostSide) (z : Slot), h.completeSlot x = l → l.tracker.slots = [z] →
        (z.state ≠ .completing ∧ z.state ≠ .awaiting) → l.config = h.config → h.settle = l := fun l z hl hz hquiet hc =>
      HostSide.settle_pair hslots hready hl hz hquiet fun id ring j => by rw [hc]; exact hconfig id ring j
    refine ⟨fun hother => ?_, fun hring hwrite hread => ?_, fun hring hkind hlist hroom hin => ?_⟩
    · have hl : h.settle = k := hsettled k y (hcomplete.trans (if_neg hother)) rfl (by rw [hfenced]; exact ⟨nofun, nofun⟩) hkconfig
      have hself : ({ y with state := .fenced } : Slot) = y := by rw [← hfenced]
      refine ⟨⟨?_, by rw [hl]; rfl, by rw [hl]; rfl⟩, by rw [hl]; rfl⟩
      rw [hl, hself]
      rfl
    · have hlist : y.req.needsList = false := Bool.eq_false_iff.mpr fun hneeds => by
        obtain ⟨huse, hk⟩ := y.req.needsList_iff.mp hneeds
        rcases hk with hk | hk
        · exact hread.elim (fun h => by rw [h] at huse; nomatch huse) fun h => h hk
        · exact hwrite hk
      have hbegun : k.beginWork y.num = k.setTracker { h.tracker with slots := [{ y with state := .issuing }] } := by
        rw [HostSide.beginWork_issue hy hlist, HostSide.beginIssue_other hy hwrite]
        exact HostSide.modifySlot_single (h := k) rfl _
      have hl := hsettled _ { y with state := .issuing } ((hcomplete.trans (if_pos hring)).trans hbegun) rfl
        ⟨by nofun, by nofun⟩ hkconfig
      exact ⟨⟨by rw [hl]; rfl, by rw [hl]; rfl, by rw [hl]; rfl⟩, by rw [hl]; rfl⟩
    · have hbegun : k.beginWork y.num =
          (k.setTracker { h.tracker with slots := [{ y with state := .loadingList }] }).asked y.listReads := by
        rw [HostSide.beginWork_list hy (y.req.needsList_iff.mpr ⟨hlist, hkind⟩) (by rw [hkport]; exact hin)
          (by rw [hkport]; exact hroom)]
        exact congrArg (fun g : HostSide => g.asked y.listReads) (HostSide.modifySlot_single (h := k) rfl _)
      have hl := hsettled _ { y with state := .loadingList } ((hcomplete.trans (if_pos hring)).trans hbegun) rfl
        ⟨by nofun, by nofun⟩ hkconfig
      refine ⟨⟨by rw [hl]; rfl, by rw [hl]; rfl, by rw [hl]; rfl⟩, ?_⟩
      rw [hl, ← hkport]
      rfl

end

section
/-! PROOF. READ, CHECK and MERGE at a bank: the effect of an attempt, and the delivery of an operation's end to its slot. -/

namespace Sys2Proof.Machine

/-! ## The effect of a read (R18, R21, R22) -/

/-- The result of a read by its outcome and the granule found. -/
def readResult (outcome : ReadOutcome) (g : Granule) : OpResult :=
  if outcome = .uncorrectable ∨ g = .tainted then .tainted else if outcome = .corrected then .corrected else .ok

/-- The data of a granule, zeros when it is lost. -/
def readData (outcome : ReadOutcome) (g : Granule) : Block :=
  match g with
  | .valid d => if outcome = .uncorrectable then 0 else d
  | .tainted => 0

theorem readEffect_handed (k : Nat) (g : Granule) (outcome : ReadOutcome) :
    (readEffect k g outcome).result = readResult outcome g ∧ (readEffect k g outcome).data = readData outcome g
      ∧ (readEffect k g outcome).report = reportOf outcome ∧ (readEffect k g outcome).targetFailed = false := by
  cases outcome <;> cases g <;> exact ⟨rfl, rfl, rfl, rfl⟩

theorem read_readEffect (m : Memory) (k : Nat) (g : Granule) (outcome : ReadOutcome) (a : Nat) :
    (m.writeAll (readEffect k g outcome).writes).read a =
      if a = k ∧ outcome = .uncorrectable then some .tainted
      else if a = k ∧ outcome = .corrected ∧ g ≠ .tainted then some g else m.read a := by
  have hwrite (v : Granule) : (m.writeAll [(k, v)]).read a = if a = k then some v else m.read a := by
    change (m.write k v).read a = _
    rw [Memory.read_write]
    exact if_congr eq_comm rfl rfl
  have hnothing : (m.writeAll []).read a = m.read a := rfl
  cases outcome with
  | clean => cases g <;> simpa [readEffect, readYield] using hnothing
  | corrected =>
    cases g with
    | valid d => simpa [readEffect, readYield] using hwrite (.valid d)
    | tainted => simpa [readEffect, readYield] using hnothing
  | uncorrectable => simpa [readEffect, readYield] using hwrite .tainted

/-! ## The effect of a MERGE (R24) -/

/-- A MERGE of no word is a CHECK. -/
theorem mergeEffect_noWord (k : Nat) (ks : List Nat) (g : Granule) (outcome : ReadOutcome) (new : Block) :
    mergeEffect k ks g outcome 0 new = readEffect k g outcome := if_pos rfl

theorem mergeEffect_handed (k : Nat) (ks : List Nat) (g : Granule) (outcome : ReadOutcome) (mask : BitVec 8) (new : Block) :
    (mergeEffect k ks g outcome mask new).result = readResult outcome g
      ∧ (mergeEffect k ks g outcome mask new).report = reportOf outcome
      ∧ (mergeEffect k ks g outcome mask new).targetFailed = false := by
  by_cases hmask : mask = 0
  · obtain ⟨hresult, -, hreport, htarget⟩ := readEffect_handed k g outcome
    rw [hmask, mergeEffect_noWord]
    exact ⟨hresult, hreport, htarget⟩
  · rw [mergeEffect, if_neg hmask]
    cases outcome <;> cases g <;> exact ⟨rfl, rfl, rfl⟩

/-- What a MERGE writes: the lost granule marked, nothing on a TAINTED one, else the merged data at each key. -/
theorem mergeEffect_writes (k : Nat) (ks : List Nat) (g : Granule) (outcome : ReadOutcome) (mask : BitVec 8) (new : Block) :
    (outcome = .uncorrectable → (mergeEffect k ks g outcome mask new).writes = [(k, .tainted)])
      ∧ (outcome ≠ .uncorrectable → g = .tainted → (mergeEffect k ks g outcome mask new).writes = [])
      ∧ ∀ old, outcome ≠ .uncorrectable → g = .valid old → mask ≠ 0 →
        (mergeEffect k ks g outcome mask new).writes = ks.map fun k => (k, .valid (mergeBlock mask new old)) := by
  refine ⟨?lost, ?tainted, ?merged⟩
  case lost =>
    rintro rfl
    rw [mergeEffect]
    split <;> rfl
  case tainted =>
    rintro hgood rfl
    rw [mergeEffect]
    cases outcome with
    | uncorrectable => exact absurd rfl hgood
    | clean => split <;> rfl
    | corrected => split <;> rfl
  case merged =>
    rintro old hgood rfl hmask
    rw [mergeEffect, if_neg hmask]
    cases outcome with
    | uncorrectable => exact absurd rfl hgood
    | clean => rfl
    | corrected => rfl

/-- One granule written at each of some keys. -/
theorem Memory.read_writeAll_map (ks : List Nat) (m : Memory) (v : Granule) (a : Nat) :
    (m.writeAll (ks.map fun k => (k, v))).read a = if a ∈ ks then some v else m.read a := by
  induction ks generalizing m with
  | nil => exact (if_neg List.not_mem_nil).symm
  | cons k ks ih =>
    refine (ih (m.write k v)).trans ?_
    rw [Memory.read_write]
    by_cases hmem : a ∈ ks
    · rw [if_pos hmem, if_pos (List.mem_cons_of_mem k hmem)]
    · rw [if_neg hmem]
      exact if_congr (by rw [List.mem_cons, or_iff_left hmem, eq_comm]) rfl rfl

theorem blockWord_mergeBlock (mask : BitVec 8) (new old : Block) {w : Nat} (hw : w < 8) :
    blockWord (mergeBlock mask new old) w = if mask.getLsbD w then blockWord new w else blockWord old w :=
  blockWord_blockOfWords _ hw

/-- What the granules are after a MERGE that read the granule at `k` and wrote at `ks`, `m` being the store before it. -/
theorem read_mergeEffect (m : Memory) (k : Nat) (ks : List Nat) (g : Granule) (outcome : ReadOutcome) (mask : BitVec 8)
    (new : Block) : let after := m.writeAll (mergeEffect k ks g outcome mask new).writes
    (outcome = .uncorrectable → ∀ a, after.read a = if a = k then some .tainted else m.read a)
      ∧ (outcome ≠ .uncorrectable → g = .tainted → ∀ a, after.read a = m.read a)
      ∧ (∀ old, outcome ≠ .uncorrectable → g = .valid old → mask ≠ 0 →
          ∀ a, after.read a = if a ∈ ks then some (.valid (mergeBlock mask new old)) else m.read a)
      ∧ (∀ old, outcome ≠ .uncorrectable → g = .valid old → mask = 0 → ∀ a, after.read a =
          if a = k ∧ outcome = .corrected then some (.valid old) else m.read a) := by
  intro after
  obtain ⟨hlost, htainted, hmerged⟩ := mergeEffect_writes k ks g outcome mask new
  refine ⟨fun ho a => ?_, fun ho hg a => ?_, fun old ho hg hmask a => ?_, fun old ho hg hmask a => ?_⟩
  · change (m.writeAll _).read a = _
    rw [hlost ho]
    change (m.write k _).read a = _
    rw [Memory.read_write]
    exact if_congr eq_comm rfl rfl
  · change (m.writeAll _).read a = _
    rw [htainted ho hg]
    rfl
  · change (m.writeAll _).read a = _
    rw [hmerged old ho hg hmask, Memory.read_writeAll_map]
  · change (m.writeAll _).read a = _
    rw [hmask, mergeEffect_noWord, read_readEffect, hg, if_neg fun h => ho h.2]
    simp

/-! ## Which copy is read (R71 to R73) -/

theorem PoolSide.readingEffect_home {ip : InProgress} (h : ip.targetKey? = none) (p : PoolSide) (outcome source : ReadOutcome)
    (act : Nat → List Nat → Granule → ReadOutcome → Effect) : p.readingEffect ip outcome source act =
      act ip.sourceKey [ip.sourceKey] (p.granule ip.sourceKey 0) outcome := by
  rw [PoolSide.readingEffect, h]

theorem PoolSide.readingEffect_target {ip : InProgress} {t : Nat} (h : ip.targetKey? = some t) {outcome : ReadOutcome}
    (ho : outcome ≠ .uncorrectable) (p : PoolSide) (source : ReadOutcome)
    (act : Nat → List Nat → Granule → ReadOutcome → Effect) : p.readingEffect ip outcome source act =
      act t [t, ip.sourceKey] (p.granule t 0) outcome := by
  rw [PoolSide.readingEffect, h]
  exact if_neg ho

theorem PoolSide.readingEffect_source {ip : InProgress} {t : Nat} (h : ip.targetKey? = some t) (p : PoolSide)
    (source : ReadOutcome) (act : Nat → List Nat → Granule → ReadOutcome → Effect) :
    p.readingEffect ip .uncorrectable source act =
      { act ip.sourceKey [ip.sourceKey] (p.granule ip.sourceKey 1) source with targetFailed := true } := by
  rw [PoolSide.readingEffect, h]
  rfl

/-- The target key names the operation's granule in the target of a migration whose cursor is above it. -/
theorem InProgress.targetKey?_some {ip : InProgress} {k : Nat} (h : ip.targetKey? = some k) :
    ∃ t m, ip.mig = some (t, m) ∧ ip.op.gran.val < m ∧ k = granKey ip.op.bank ip.op.row (some t) ip.op.gran := by
  rw [InProgress.targetKey?] at h
  split at h
  case h_2 => nomatch h
  case h_1 t m hmig =>
    split at h
    · exact ⟨t, m, hmig, ‹_›, (Option.some.inj h).symm⟩
    · nomatch h

/-! ## What the granule commands do -/

/-- The effect of a READ or CHECK in progress: a CHECK hands back no data. -/
def PoolSide.readsEffect (p : PoolSide) (ip : InProgress) (outcome source : ReadOutcome) : Effect :=
  { p.readingEffect ip outcome source fun k _ g o => readEffect k g o with
    data := if ip.op.kind = .read then (p.readingEffect ip outcome source fun k _ g o => readEffect k g o).data else 0 }

theorem exec_reads {s : State} {b : BankNo} {ip : InProgress} {outcome source : ReadOutcome} {c : Instr}
    (hcur : (s.pool.bank b).cur = some ip)
    (hc : c = .readOperation b outcome source ∧ ip.op.kind = .read
      ∨ c = .checkOperation b outcome source ∧ ip.op.kind = .check) :
    exec c s = .next (s.deliver ((Work.start s.pool).endOp b ip (s.pool.readsEffect ip outcome source)) (· == b)) := by
  rcases hc with ⟨rfl, hkind⟩ | ⟨rfl, hkind⟩
  · change Host.Outcome.next (s.completeOp b _) = _
    simp only [State.completeOp, hcur, hkind, PoolSide.readsEffect, if_true]
    rfl
  · change Host.Outcome.next (s.completeOp b _) = _
    simp only [State.completeOp, hcur, hkind, PoolSide.readsEffect]
    rfl

theorem exec_mergeOperation {s : State} {b : BankNo} {ip : InProgress} {mask : BitVec 8} {new : Block}
    (hcur : (s.pool.bank b).cur = some ip) (hkind : ip.op.kind = .merge mask new) (outcome source : ReadOutcome) :
    exec (.mergeOperation b outcome source) s = .next
      (s.deliver ((Work.start s.pool).endOp b ip (s.pool.mergeOpEffect ip mask new outcome source)) (· == b)) := by
  change Host.Outcome.next (s.completeOp b _) = _
  simp only [State.completeOp, hcur, hkind]

/-! ## The end of a slot's operation (R27, R73) -/

/-- The pool side after an operation with effect `f` has ended at bank `b`, without target failure. -/
def PoolSide.afterOp (p : PoolSide) (b : BankNo) (r : RowNo) (f : Effect) : PoolSide :=
  ((p.commit b r f.writes f.report).clearCur b).takeNext b

theorem PoolSide.keptBut_afterOp (p : PoolSide) (b : BankNo) (r : RowNo) (f : Effect) : p.keptBut (p.afterOp b r f) b := by
  obtain ⟨x, hx⟩ := PoolSide.takeNext_eq ((p.commit b r f.writes f.report).clearCur b) b
  have h : p.afterOp b r f = ((p.commit b r f.writes f.report).clearCur b).setBank b x := hx
  rw [h]
  refine ⟨rfl, rfl, rfl, rfl, rfl, rfl, rfl, fun i hi => ?_⟩
  rw [PoolSide.bank_setBank_of_ne _ hi.symm, PoolSide.clearCur, PoolSide.bank_setBank_of_ne _ hi.symm]
  rfl

theorem PoolSide.afterOp_bank (p : PoolSide) (b : BankNo) (r : RowNo) (f : Effect) :
    (p.afterOp b r f).bank b = ((p.clearCur b).takeNext b).bank b := by
  rw [PoolSide.afterOp, PoolSide.takeNext_bank, PoolSide.takeNext_bank]
  rfl

theorem Work.endOp_slot {ip : InProgress} {n : SlotNo} {tag : SlotTag} (hissuer : ip.op.issuer = .slot n tag) {f : Effect}
    (hf : f.targetFailed = false) (p : PoolSide) (b : BankNo) : (Work.start p).endOp b ip f =
      { pool := p.afterOp b ip.op.row f, raised := []
        ends := [{ op := ip.op, result := f.result, data := f.data }] } := by
  rw [Work.endOp, Work.handBack, hf]
  dsimp only
  rw [hissuer]
  rfl

theorem Work.endOp_slot_targetFailed {ip : InProgress} {n : SlotNo} {tag : SlotTag} (hissuer : ip.op.issuer = .slot n tag)
    {f : Effect} (hf : f.targetFailed = true) (p : PoolSide) (b : BankNo) : (Work.start p).endOp b ip f =
      ((((Work.start p).onPool fun p => (p.commit b ip.op.row f.writes f.report).clearCur b).hostTargetFailure b
        ip.op.row).onPool fun p => p.takeNext b).ended { op := ip.op, result := f.result, data := f.data } := by
  rw [Work.endOp, Work.handBack, hf]
  dsimp only
  rw [hissuer]
  rfl

/-- Delivery with nothing held for the bank. -/
theorem State.deliver_end {s : State} {b : BankNo} (hnone : s.host.tracker.noneHeldFor b) {w : Work} {e : OpEnd}
    (hends : w.ends = [e]) : s.deliver w (· == b) = (s.setPool w.pool).setHost
      ((s.host.raiseAll w.raised).resultBack w.pool.control.stride e).settle := by
  rw [State.deliver_none (f := (· == b)) fun x hx o ho => beq_false_of_ne (hnone x hx o ho), hends]
  rfl

/-- A slot's operation ends without target failure. -/
theorem State.deliver_slotEnd {s : State} {b : BankNo} (hnone : s.host.tracker.noneHeldFor b) {ip : InProgress} {n : SlotNo}
    {tag : SlotTag} (hissuer : ip.op.issuer = .slot n tag) {f : Effect} (hf : f.targetFailed = false) :
    s.deliver ((Work.start s.pool).endOp b ip f) (· == b) = (s.setPool (s.pool.afterOp b ip.op.row f)).setHost
      (s.host.resultBack s.pool.control.stride { op := ip.op, result := f.result, data := f.data }).settle := by
  rw [Work.endOp_slot hissuer hf, State.deliver_end hnone rfl]
  obtain ⟨hcontrol, -⟩ := s.pool.keptBut_afterOp b ip.op.row f
  rw [hcontrol]
  rfl

theorem Work.targetFailure_raised (w : Work) (i : Fin 4) (m : MigSlot) : ∃ es : List Event,
    (∀ e ∈ es, ∃ reason, e = .migrationFailed m.bank m.row reason) ∧ (w.targetFailure i m).raised = w.raised ++ es
      ∧ (w.targetFailure i m).ends = w.ends := by
  have hfail (v : Work) (reason : MigReason) : ∃ es : List Event,
      (∀ e ∈ es, ∃ reason, e = .migrationFailed m.bank m.row reason)
        ∧ (v.failMigration i m reason).raised = v.raised ++ es ∧ (v.failMigration i m reason).ends = v.ends :=
    ⟨[.migrationFailed m.bank m.row reason], fun e he => ⟨reason, List.mem_singleton.mp he⟩, rfl, rfl⟩
  rw [Work.targetFailure]
  split
  · exact hfail _ _
  · split
    · exact ⟨[], nofun, (List.append_nil _).symm, rfl⟩
    · exact hfail _ _

/-- The events of a host operation's target failure are of the migration of its row. -/
theorem Work.hostTargetFailure_raised (w : Work) (b : BankNo) (r : RowNo) : ∃ es : List Event,
    (∀ e ∈ es, ∃ reason, e = .migrationFailed b r reason) ∧ (w.hostTargetFailure b r).raised = w.raised ++ es
      ∧ (w.hostTargetFailure b r).ends = w.ends := by
  have hnothing : ∃ es : List Event, (∀ e ∈ es, ∃ reason, e = .migrationFailed b r reason) ∧ w.raised = w.raised ++ es
      ∧ w.ends = w.ends := ⟨[], nofun, (List.append_nil _).symm, rfl⟩
  rw [Work.hostTargetFailure]
  split
  case h_1 => exact hnothing
  case h_2 i m hslot =>
    obtain rfl := Migration.slotOf?_bank hslot
    split
    case isFalse => exact hnothing
    case isTrue h =>
      obtain ⟨rfl, -⟩ := h
      exact w.targetFailure_raised i m

theorem PoolSide.keptBeside_voidStep (p : PoolSide) (b : BankNo) : p.keptBeside (p.voidStep b) b := by
  rw [PoolSide.voidStep]
  split
  · exact p.keptBeside_setBank b _
  · exact .refl p b

theorem Work.keptBeside_hostTargetFailure (w : Work) (b : BankNo) (r : RowNo) :
    w.pool.keptBeside (w.hostTargetFailure b r).pool b := by
  rw [Work.hostTargetFailure]
  split
  case h_1 => exact .refl _ b
  case h_2 i m hslot =>
    obtain rfl := Migration.slotOf?_bank hslot
    split
    · exact (w.keptBeside_targetFailure i m).trans (PoolSide.keptBeside_voidStep _ _)
    · exact .refl _ _

/-- A slot's operation that met a target failure ends. -/
theorem State.deliver_slotEnd_targetFailed {s : State} {b : BankNo} (hnone : s.host.tracker.noneHeldFor b) {ip : InProgress}
    {n : SlotNo} {tag : SlotTag} (hissuer : ip.op.issuer = .slot n tag) {f : Effect} (hf : f.targetFailed = true) :
    ∃ es : List Event, (∀ e ∈ es, ∃ reason, e = .migrationFailed b ip.op.row reason)
      ∧ (s.deliver ((Work.start s.pool).endOp b ip f) (· == b)).host = ((s.host.raiseAll es).resultBack
          s.pool.control.stride { op := ip.op, result := f.result, data := f.data }).settle := by
  let w := (Work.start s.pool).onPool fun p => (p.commit b ip.op.row f.writes f.report).clearCur b
  obtain ⟨es, hes, hraised, hends⟩ := w.hostTargetFailure_raised b ip.op.row
  obtain ⟨hcontrol, -⟩ := (w.keptBeside_hostTargetFailure b ip.op.row).trans (PoolSide.keptBeside_takeNext _ b)
  refine ⟨es, hes, ?_⟩
  rw [Work.endOp_slot_targetFailed hissuer hf,
    State.deliver_end hnone (e := { op := ip.op, result := f.result, data := f.data }) (by
      change (w.hostTargetFailure b ip.op.row).ends ++ _ = _
      rw [hends]
      rfl)]
  change ((s.host.raiseAll (w.hostTargetFailure b ip.op.row).raised).resultBack
    ((w.hostTargetFailure b ip.op.row).pool.takeNext b).control.stride _).settle = _
  rw [hraised, hcontrol]
  rfl

/-- The granules after the end of an operation: its writes. -/
theorem State.deliver_endOp_mem (s : State) (b : BankNo) (ip : InProgress) (f : Effect) :
    (s.deliver ((Work.start s.pool).endOp b ip f) (· == b)).pool.mem = s.pool.mem.writeAll f.writes :=
  ((Work.endOp_store (Work.start s.pool) b ip f).trans (s.deliver_store _ _)).1

/-- The reports after the end of an operation: its one report, unless it sends none. -/
theorem State.deliver_endOp_reports (s : State) (b : BankNo) (ip : InProgress) (f : Effect) :
    (s.deliver ((Work.start s.pool).endOp b ip f) (· == b)).pool.reports = s.pool.reports ++ f.report.toList.map
      (fun e => ({ bank := b, row := ip.op.row, outcome := e } : Report)) := by
  obtain ⟨-, hreports, -⟩ := (Work.endOp_store (Work.start s.pool) b ip f).trans (s.deliver_store _ (· == b))
  refine hreports.trans ?_
  rw [PoolSide.commit_reports]
  cases f.report <;> rfl

end Sys2Proof.Machine

open Sys2Proof Sys2Proof.Machine

/-- Settles O36. -/
theorem readAndCheck : Obligations.ReadAndCheck := by
  intro s b ip outcome source n tag c hcur hissuer hhome hnone hc k g result found
  have hreading := s.pool.readingEffect_home hhome outcome source fun k _ g o => readEffect k g o
  obtain ⟨hresult, hdata, hreport, htarget⟩ := readEffect_handed k g outcome
  let f := s.pool.readsEffect ip outcome source
  have hf : f = { readEffect k g outcome with data := if ip.op.kind = .read then readData outcome g else 0 } := by
    change PoolSide.readsEffect _ _ _ _ = _
    rw [PoolSide.readsEffect, hreading, ← hdata]
    rfl
  have hmem := s.deliver_endOp_mem b ip f
  have hreports := s.deliver_endOp_reports b ip f
  have hdelivered := State.deliver_slotEnd hnone hissuer (f := f) (by rw [hf]; exact htarget)
  refine ⟨_, exec_reads hcur hc, fun a => ?_, ?_, ?_, ?_, ?_, s.deliver_pending _ _⟩
  · rw [hmem, hf]
    exact read_readEffect s.pool.mem k g outcome a
  · rw [hreports, hf]
    dsimp only
    rw [hreport]
    cases outcome <;> rfl
  · rw [hdelivered]
    exact s.pool.afterOp_bank b _ _
  · rw [hdelivered]
    exact s.pool.keptBut_afterOp b _ _
  · rw [hdelivered]
    change (s.host.resultBack _ _).settle = _
    rw [hf]
    dsimp only
    rw [hresult]
    rfl

/-- Settles O37. -/
theorem readsBelowCursor : Obligations.ReadsBelowCursor := by
  intro s b ip outcome source k c hcur hkey hc sk g gs reports gives ofSlot
  let f := s.pool.readsEffect ip outcome source
  have hexec : exec c s = .next (s.deliver ((Work.start s.pool).endOp b ip f) (· == b)) := exec_reads hcur hc
  have hmem := s.deliver_endOp_mem b ip f
  have hreports := s.deliver_endOp_reports b ip f
  have hgives : ∀ (o : ReadOutcome) (found : Granule), gives o found =
      { op := ip.op, result := readResult o found, data := if ip.op.kind = .read then readData o found else 0 } := by
    intro o found
    change ({ op := ip.op, result := readResult o found, data := _ } : OpEnd) = _
    congr 1
    cases o <;> cases found <;> by_cases hkind : ip.op.kind = .read <;> simp [hkind, readData]
  refine ⟨InProgress.targetKey?_some hkey, fun hgood => ?target, fun hlost => ?source⟩
  case target =>
    obtain ⟨hresult, hdata, hreport, htarget⟩ := readEffect_handed k g outcome
    have hf : f = { readEffect k g outcome with data := if ip.op.kind = .read then readData outcome g else 0 } := by
      change PoolSide.readsEffect _ _ _ _ = _
      rw [PoolSide.readsEffect, PoolSide.readingEffect_target hkey hgood, ← hdata]
      rfl
    refine ⟨_, hexec, fun a => ?_, ?_, fun ⟨⟨n, tag, hissuer⟩, hnone⟩ => ?_⟩
    · rw [hmem, hf]
      exact (read_readEffect s.pool.mem k g outcome a).trans (if_neg fun h => hgood h.2)
    · rw [hreports, hf]
      dsimp only
      rw [hreport]
    · rw [State.deliver_slotEnd hnone hissuer (f := f) (by rw [hf]; exact htarget), hgives, hf]
      dsimp only
      rw [hresult]
      rfl
  case source =>
    obtain ⟨hresult, hdata, hreport, -⟩ := readEffect_handed sk gs source
    have hf : f = { readEffect sk gs source with
        data := if ip.op.kind = .read then readData source gs else 0, targetFailed := true } := by
      change PoolSide.readsEffect _ _ _ _ = _
      rw [hlost, PoolSide.readsEffect, PoolSide.readingEffect_source hkey, ← hdata]
      rfl
    refine ⟨_, hexec, fun a => ?_, ?_, fun ⟨⟨n, tag, hissuer⟩, hnone⟩ => ?_⟩
    · rw [hmem, hf]
      exact read_readEffect s.pool.mem sk gs source a
    · rw [hreports, hf]
      dsimp only
      rw [hreport]
    · obtain ⟨es, hes, hhost⟩ := State.deliver_slotEnd_targetFailed hnone hissuer (f := f) (by rw [hf])
      refine ⟨es, hes, ?_⟩
      rw [hhost, hgives, hf]
      dsimp only
      rw [hresult]

/-- Settles O38. -/
theorem mergeOperation : Obligations.MergeOperation := by
  refine ⟨?here, ?source⟩
  case here =>
    intro s b ip outcome source n tag mask new hcur hissuer hkind hnone hread sk k g result
    let f := s.pool.mergeOpEffect ip mask new outcome source
    obtain ⟨ks, hks, hf⟩ : ∃ ks : List Nat, (∀ a, a ∈ ks ↔ a = k ∨ a = sk)
        ∧ f = { mergeEffect k ks g outcome mask new with data := 0 } := by
      change ∃ ks : List Nat, _ ∧ PoolSide.mergeOpEffect _ _ _ _ _ _ = _
      rw [PoolSide.mergeOpEffect]
      have hg : g = s.pool.granule k 0 := rfl
      cases hkey : ip.targetKey? with
      | none =>
        have hk : k = sk := by change ip.targetKey?.getD sk = _; rw [hkey]; rfl
        rw [PoolSide.readingEffect_home hkey, hg, hk]
        exact ⟨[sk], fun a => by simp, rfl⟩
      | some t =>
        have hk : k = t := by change ip.targetKey?.getD sk = _; rw [hkey]; rfl
        rw [PoolSide.readingEffect_target hkey (hread.resolve_left (by rw [hkey]; nofun)), hg, hk]
        exact ⟨[t, sk], fun a => by simp, rfl⟩
    obtain ⟨hresult, hreport, htarget⟩ := mergeEffect_handed k ks g outcome mask new
    obtain ⟨hlost, htainted, hmerged, hcheck⟩ := read_mergeEffect s.pool.mem k ks g outcome mask new
    have hmem : (s.deliver ((Work.start s.pool).endOp b ip f) (· == b)).pool.mem =
        s.pool.mem.writeAll (mergeEffect k ks g outcome mask new).writes := by
      rw [s.deliver_endOp_mem b ip f, hf]
    have hdelivered := State.deliver_slotEnd hnone hissuer (f := f) (by rw [hf]; exact htarget)
    refine ⟨_, exec_mergeOperation hcur hkind outcome source, fun ho a => ?_, fun ho hg a => ?_,
      fun old ho hg hmask => ⟨mergeBlock mask new old, fun a => ?_, fun w hw => blockWord_mergeBlock mask new old hw⟩,
      fun old ho hg hmask a => ?_, ?_, ?_, ?_, ?_, s.deliver_pending _ _⟩
    · exact (congrArg (·.read a) hmem).trans (hlost ho a)
    · exact (congrArg (·.read a) hmem).trans (htainted ho hg a)
    · exact ((congrArg (·.read a) hmem).trans (hmerged old ho hg hmask a)).trans (if_congr (hks a) rfl rfl)
    · exact (congrArg (·.read a) hmem).trans (hcheck old ho hg hmask a)
    · refine (s.deliver_endOp_reports b ip f).trans ?_
      rw [hf]
      dsimp only
      rw [hreport]
    · exact (congrArg (fun t : State => t.pool.bank b) hdelivered).trans (s.pool.afterOp_bank b _ _)
    · exact (congrArg (fun t : State => s.pool.keptBut t.pool b) hdelivered).mpr (s.pool.keptBut_afterOp b _ _)
    · refine (congrArg State.host hdelivered).trans ?_
      change (s.host.resultBack _ _).settle = _
      rw [hf]
      dsimp only
      rw [hresult]
      rfl
  case source =>
    intro s b ip source n tag mask new k hcur hissuer hkind hnone hkey sk g result
    let f := s.pool.mergeOpEffect ip mask new .uncorrectable source
    have hf : f = { mergeEffect sk [sk] g source mask new with data := 0, targetFailed := true } := by
      change PoolSide.mergeOpEffect _ _ _ _ _ _ = _
      rw [PoolSide.mergeOpEffect, PoolSide.readingEffect_source hkey]
      rfl
    obtain ⟨hresult, hreport, -⟩ := mergeEffect_handed sk [sk] g source mask new
    obtain ⟨hlost, htainted, hmerged, hcheck⟩ := read_mergeEffect s.pool.mem sk [sk] g source mask new
    have hmem : (s.deliver ((Work.start s.pool).endOp b ip f) (· == b)).pool.mem =
        s.pool.mem.writeAll (mergeEffect sk [sk] g source mask new).writes := by
      rw [s.deliver_endOp_mem b ip f, hf]
    obtain ⟨es, hes, hhost⟩ := State.deliver_slotEnd_targetFailed hnone hissuer (f := f) (by rw [hf])
    refine ⟨_, es, exec_mergeOperation hcur hkind .uncorrectable source, fun ho a => ?_, fun ho hg a => ?_,
      fun old ho hg hmask => ⟨mergeBlock mask new old, fun a => ?_, fun w hw => blockWord_mergeBlock mask new old hw⟩,
      fun old ho hg hmask a => ?_, ?_, hes, ?_, s.deliver_pending _ _⟩
    · exact (congrArg (·.read a) hmem).trans (hlost ho a)
    · exact (congrArg (·.read a) hmem).trans (htainted ho hg a)
    · exact ((congrArg (·.read a) hmem).trans (hmerged old ho hg hmask a)).trans (if_congr List.mem_singleton rfl rfl)
    · exact (congrArg (·.read a) hmem).trans (hcheck old ho hg hmask a)
    · refine (s.deliver_endOp_reports b ip f).trans ?_
      rw [hf]
      dsimp only
      rw [hreport]
    · refine hhost.trans ?_
      rw [hf]
      dsimp only
      rw [hresult]
      rfl

end

section
/-! PROOF. WRITE and MARK at a bank, the admission of a held operation at the freed place, and the bank's next operation. -/

namespace Sys2Proof.Machine

/-! ## The next operation (R29, R31) -/

/-- The operation that a bank takes leaves the waiting ones in their order. -/
theorem Bank.nextOp?_row {x : Bank} {older younger : List BankOp} {o : BankOp} (hwaiting : x.waiting = older ++ o :: younger)
    (hrow : x.openRow = some o.row) (hfirst : ∀ y ∈ older, x.openRow ≠ some y.row) :
    x.nextOp? = some o ∧ x.waiting.erase o = older ++ younger := by
  have holder : ∀ y ∈ older, (some y.row == x.openRow) = false := fun y hy => beq_false_of_ne fun h => hfirst y hy h.symm
  constructor
  · have hfind : x.waiting.find? (fun y => some y.row == x.openRow) = some o := by
      rw [hwaiting, List.find?_append, List.find?_eq_none.mpr fun y hy => by rw [holder y hy]; nofun, List.find?_cons,
        beq_iff_eq.mpr hrow.symm]
      rfl
    rw [Bank.nextOp?, hfind]
  · rw [hwaiting, List.erase_append_right _ fun hmem => hfirst o hmem hrow, List.erase_cons_head]

theorem Bank.nextOp?_oldest {x : Bank} {o : BankOp} {younger : List BankOp} (hwaiting : x.waiting = o :: younger)
    (hnone : ∀ y ∈ x.waiting, x.openRow ≠ some y.row) : x.nextOp? = some o ∧ x.waiting.erase o = younger := by
  constructor
  · have hfind : x.waiting.find? (fun y => some y.row == x.openRow) = none :=
      List.find?_eq_none.mpr fun y hy => by rw [beq_iff_eq]; exact fun h => hnone y hy h.symm
    rw [Bank.nextOp?, hfind, hwaiting]
    rfl
  · rw [hwaiting, List.erase_cons_head]

theorem Bank.nextOp?_nil {x : Bank} (hwaiting : x.waiting = []) : x.nextOp? = none := by
  rw [Bank.nextOp?, hwaiting]
  rfl

/-- A waiting operation is taken. -/
theorem PoolSide.takeNext_takes {p : PoolSide} {b : BankNo} {o : BankOp} (hnext : (p.bank b).nextOp? = some o) :
    p.takeNext b = p.beginOp b o ((p.bank b).waiting.erase o) := by
  rw [PoolSide.takeNext, hnext]

/-- A bank with nothing waiting is IDLE, or CLOSED in a FAILED channel. -/
theorem PoolSide.takeNext_nil {p : PoolSide} {b : BankNo} (hwaiting : (p.bank b).waiting = []) : p.takeNext b =
    p.setBank b (if p.bankFailed b then { p.bank b with state := .closed, openRow := none, record := none }
      else { p.bank b with state := .idle }) := by
  rw [PoolSide.takeNext, Bank.nextOp?_nil hwaiting]
  exact (apply_ite (p.setBank b) _ _ _).symm

/-- The bank takes one of its waiting operations: one general operation fewer waits, unless the one taken is of the
controllers. -/
theorem Bank.nextOp?_mem {x : Bank} {o : BankOp} (hnext : x.nextOp? = some o) : o ∈ x.waiting := by
  rw [Bank.nextOp?] at hnext
  split at hnext
  case h_1 h => exact Option.some.inj hnext ▸ List.mem_of_find?_eq_some h
  case h_2 => exact List.mem_of_head? hnext

theorem Bank.nextOp?_isSome {x : Bank} (hwaiting : x.waiting ≠ []) : ∃ o, x.nextOp? = some o := by
  obtain ⟨o, rest, h⟩ := List.exists_cons_of_ne_nil hwaiting
  rw [Bank.nextOp?]
  split
  · exact ⟨_, rfl⟩
  · exact ⟨o, by rw [h]; rfl⟩

/-! ## WRITE and MARK (R23, R25, R70) -/

theorem InProgress.read_storeEffect (ip : InProgress) (g : Granule) (m : Memory) (a : Nat) :
    (m.writeAll (ip.storeEffect g).writes).read a =
      if a = granKey ip.op.bank ip.op.row ip.source ip.op.gran ∨ ip.targetKey? = some a then some g else m.read a := by
  have hwrites : (ip.storeEffect g).writes = (ip.sourceKey :: ip.targetKey?.toList).map fun k => (k, g) := by
    rw [InProgress.storeEffect]
    cases ip.targetKey? <;> rfl
  rw [hwrites, Memory.read_writeAll_map]
  refine if_congr ?_ rfl rfl
  rw [List.mem_cons, Option.mem_toList]
  rfl

theorem exec_stores {s : State} {b : BankNo} {ip : InProgress} {c : Instr} {g : Granule} (hcur : (s.pool.bank b).cur = some ip)
    (hc : (∃ d, c = .writeOperation b ∧ ip.op.kind = .write d ∧ g = .valid d)
      ∨ c = .markOperation b ∧ ip.op.kind = .mark ∧ g = .tainted) :
    exec c s = .next (s.deliver ((Work.start s.pool).endOp b ip (ip.storeEffect g)) (· == b)) := by
  rcases hc with ⟨d, rfl, hkind, rfl⟩ | ⟨rfl, hkind, rfl⟩
  · change Host.Outcome.next (s.completeOp b _) = _
    simp only [State.completeOp, hcur, hkind]
  · change Host.Outcome.next (s.completeOp b _) = _
    simp only [State.completeOp, hcur, hkind]

/-! ## The freed place (R134) -/

/-- A full bank whose general operation ends takes its next one, and has one general place free. -/
theorem PoolSide.freed_bank {p : PoolSide} {b : BankNo} {ip : InProgress} {n : SlotNo} {tag : SlotTag}
    (hcur : (p.bank b).cur = some ip) (hissuer : ip.op.issuer = .slot n tag) (hfull : (p.bank b).generalCount = 30) :
    (((p.clearCur b).takeNext b).bank b).generalCount = 29 ∧ (((p.clearCur b).takeNext b).bank b).cur.isSome = true := by
  have hgeneral : ip.op.isGeneral = true := by rw [BankOp.isGeneral, hissuer]
  have hwaiting : (p.bank b).waiting.countP BankOp.isGeneral = 29 := by
    rw [Bank.generalCount, hcur] at hfull
    simpa [bit, hgeneral] using hfull
  have hcleared : (p.clearCur b).bank b = { p.bank b with state := .idle, cur := none, retry := 0 } := by
    simp [PoolSide.clearCur]
  obtain ⟨o, ho⟩ := Bank.nextOp?_isSome (x := (p.clearCur b).bank b) fun h => by
    rw [hcleared] at h
    rw [show (p.bank b).waiting = [] from h] at hwaiting
    nomatch hwaiting
  have hmem : o ∈ (p.bank b).waiting := by
    have := Bank.nextOp?_mem ho
    rwa [hcleared] at this
  rw [PoolSide.takeNext_bank, ho, hcleared]
  refine ⟨?_, rfl⟩
  rw [Bank.generalCount]
  change ((p.bank b).waiting.erase o).countP BankOp.isGeneral + bit o.isGeneral = 29
  have hperm := (List.perm_cons_erase hmem).countP_eq BankOp.isGeneral
  rw [hwaiting, List.countP_cons] at hperm
  rw [hperm]
  cases o.isGeneral <;> rfl

/-- The earliest slot of those that wait for a bank with a free place. -/
theorem Tracker.waitingFor_front {t : Tracker} {older younger : List Slot} {x : Slot} {o : BankOp} {f : BankOp → Bool}
    (hslots : t.slots = older ++ x :: younger) (hfirst : ∀ y ∈ older, ∀ p, y.held = some p → f p = false)
    (hheld : x.held = some o) (hf : f o = true) : t.waitingFor f = some (x.num, o) := by
  rw [Tracker.waitingFor, hslots, List.findSome?_append, List.findSome?_eq_none_iff.mpr, List.findSome?_cons, hheld]
  · dsimp only
    rw [if_pos hf]
    rfl
  · intro y hy
    cases hp : y.held with
    | none => rfl
    | some p => exact if_neg (by rw [hfirst y hy p hp]; nofun)

/-- No held operation can be admitted. -/
theorem State.admitNext_stop {s : State} {f : BankNo → Bool}
    (hnone : s.host.tracker.waitingFor (fun o => f o.bank && s.pool.admits o.bank) = none) (k : Nat) : s.admitNext f k = s := by
  cases k with
  | zero => rfl
  | succ k => rw [State.admitNext, hnone]

theorem Tracker.waitingFor_none {t : Tracker} {f : BankOp → Bool}
    (hnone : ∀ x ∈ t.slots, ∀ o, x.held = some o → f o = false) : t.waitingFor f = none := by
  rw [Tracker.waitingFor, List.findSome?_eq_none_iff]
  intro x hx
  cases ho : x.held with
  | none => rfl
  | some o => exact if_neg (by rw [hnone x hx o ho]; nofun)

/-- A slot changed among others. -/
theorem HostSide.modifySlot_middle {h : HostSide} {older younger : List Slot} {x : Slot} (hsafe : h.tracker.safe)
    (hslots : h.tracker.slots = older ++ x :: younger) (f : Slot → Slot) : h.modifySlot x.num f =
      h.setTracker { h.tracker with slots := older ++ f x :: younger } := by
  rw [Tracker.safe, hslots, List.map_append, List.map_cons, List.nodup_append, List.nodup_cons] at hsafe
  obtain ⟨-, ⟨hyounger, -⟩, holder⟩ := hsafe
  have hother : ∀ ys : List Slot, (∀ y ∈ ys, y.num ≠ x.num) → (ys.map fun s => if s.num = x.num then f s else s) = ys := by
    intro ys hys
    conv => rhs; rw [← List.map_id ys]
    exact List.map_congr_left fun y hy => if_neg (hys y hy)
  rw [HostSide.modifySlot, hslots, List.map_append, List.map_cons, if_pos rfl,
    hother older fun y hy => holder _ (List.mem_map_of_mem hy) _ List.mem_cons_self,
    hother younger fun y hy h => hyounger (h ▸ List.mem_map_of_mem hy)]

theorem Tracker.slot?_of_mem {t : Tracker} (ht : t.safe) {x : Slot} (hx : x ∈ t.slots) : t.slot? x.num = some x := by
  obtain ⟨y, hy⟩ : ∃ y, t.slot? x.num = some y := by
    cases h : t.slot? x.num with
    | none => exact absurd rfl ((Tracker.slot?_eq_none_iff _ _).mp h x hx)
    | some y => exact ⟨y, rfl⟩
  rw [hy, Tracker.slot?_unique ht hy hx rfl]

/-- A slot whose granule `k` has been issued, and which goes on. -/
def Slot.issuedAt (x : Slot) (k : Nat) : Slot :=
  { x with held := none, issued := x.issued + 1, next := some (k + 1), staging := x.staging.filter fun z => z.gran != k }

/-- The issue of a slot's next granule, others before and behind it. -/
theorem HostSide.issued_middle {h : HostSide} {older younger : List Slot} {x : Slot} {k : Nat} (hsafe : h.tracker.safe)
    (hslots : h.tracker.slots = older ++ x :: younger) (hnext : x.next = some k) (hmore : k + 1 < x.req.count)
    (hcopy : x.req.kind ≠ .copy) (hwrite : x.req.kind ≠ .write) (st : Stride) (o : BankOp) : h.issued st x.num o =
      h.setTracker { h.tracker.countIssue x.num with slots := older ++ x.issuedAt k :: younger } := by
  let hc := h.setTracker (h.tracker.countIssue x.num)
  have hafter : x.afterIssue st o = x.issuedAt k := Slot.afterIssue_goesOn hnext hmore hcopy st o
  have hmodified : hc.modifySlot x.num (fun z => z.afterIssue st o) =
      h.setTracker { h.tracker.countIssue x.num with slots := older ++ x.issuedAt k :: younger } := by
    rw [HostSide.modifySlot_middle (h := hc) hsafe hslots, hafter]
    rfl
  have hslot : (hc.modifySlot x.num fun z => z.afterIssue st o).tracker.slot? x.num = some (x.issuedAt k) := by
    have hx : hc.tracker.slot? x.num = some x := Tracker.slot?_of_mem (t := hc.tracker) hsafe (by
      change x ∈ h.tracker.slots
      rw [hslots]
      exact List.mem_append_right _ List.mem_cons_self)
    rw [HostSide.slot?_modifySlot (fun z : Slot => (z.afterIssue_kept st o).1), hx, Option.map_some, if_pos rfl, hafter]
  rw [HostSide.issued_eq]
  exact (HostSide.stage_noWrite hslot hwrite 16).trans hmodified

end Sys2Proof.Machine

open Sys2Proof Sys2Proof.Machine

/-- Settles O39. -/
theorem writeAndMark : Obligations.WriteAndMark := by
  refine ⟨?stored, ?admitted⟩
  case stored =>
    intro s b ip n tag c g hcur hissuer hnone hc
    let f := ip.storeEffect g
    have hdelivered := State.deliver_slotEnd hnone hissuer (f := f) rfl
    refine ⟨_, exec_stores hcur hc, fun a => ?_, ?_, ?_, ?_, ?_, s.deliver_pending _ _⟩
    · exact (congrArg (·.read a) (s.deliver_endOp_mem b ip f)).trans (ip.read_storeEffect g s.pool.mem a)
    · exact (s.deliver_endOp_reports b ip f).trans (List.append_nil _)
    · exact (congrArg (fun t : State => t.pool.bank b) hdelivered).trans (s.pool.afterOp_bank b _ _)
    · exact (congrArg (fun t : State => s.pool.keptBut t.pool b) hdelivered).mpr (s.pool.keptBut_afterOp b _ _)
    · exact congrArg State.host hdelivered
  case admitted =>
    intro s b ip n tag c older younger x o k hcur hissuer hc hfull hactive hsafe hquiet hfree hslots hfirst hheld hbank
      hown hissuing hkind hnext hmore q counted
    obtain ⟨g, hg⟩ : ∃ g : Granule, (∃ d, c = .writeOperation b ∧ ip.op.kind = .write d ∧ g = .valid d)
        ∨ c = .markOperation b ∧ ip.op.kind = .mark ∧ g = .tainted := by
      rcases hc with ⟨d, hc, hk⟩ | ⟨hc, hk⟩
      · exact ⟨.valid d, .inl ⟨d, hc, hk, rfl⟩⟩
      · exact ⟨.tainted, .inr ⟨hc, hk, rfl⟩⟩
    let f := ip.storeEffect g
    let st := s.pool.control.stride
    let p := s.pool.afterOp b ip.op.row f
    let e : OpEnd := { op := ip.op, result := .ok, data := 0 }
    let w : Work := { pool := p, raised := [], ends := [e] }
    obtain ⟨hcount, hcurq⟩ := PoolSide.freed_bank hcur hissuer hfull
    have hpbank : p.bank b = q := s.pool.afterOp_bank b _ _
    have hkept : s.pool.keptBut p b := s.pool.keptBut_afterOp b _ _
    obtain ⟨hcontrol, hchannels, -⟩ := hkept
    have hnotFailed : p.bankFailed b = false := by rw [PoolSide.bankFailed, hchannels, hactive]; rfl
    have hplaced : p.arrive o = p.setBank b { q with waiting := q.waiting ++ [o] } := by
      rw [PoolSide.arrive_bank, hbank, hpbank, if_neg fun h => by rw [show q.cur = none from h] at hcurq; nomatch hcurq]
    let s0 : State := s.deliverEvents w
    have hs0 : s0 = s.setPool p := rfl
    let y : Slot := x.issuedAt k
    let h1 : HostSide := s.host.setTracker { s.host.tracker.countIssue x.num with slots := older ++ y :: younger }
    have hissued : s.host.issued st x.num o = h1 := HostSide.issued_middle hsafe hslots hnext hmore
      (by rw [hkind]; nofun) (by rw [hkind]; nofun) st o
    let s1 : State := (s.setPool (p.setBank b { q with waiting := q.waiting ++ [o] })).setHost h1
    have hfirstPlace : s0.placeOp x.num o = s1 := by
      rw [hs0, State.placeOp, if_neg (by rw [hbank]; change ¬p.bankFailed b = true; rw [hnotFailed]; nofun)]
      change ((s.setPool p).setHost (s.host.issued p.control.stride x.num o)).setPool (p.arrive o) = _
      rw [hcontrol, hissued, hplaced]
      rfl
    have hwaits : s0.host.tracker.waitingFor (fun o => (o.bank == b) && s0.pool.admits o.bank) = some (x.num, o) := by
      have hroom : p.admits b = true := by
        have hgeneral : (p.bank b).hasGeneral = true := by
          rw [hpbank, Bank.hasGeneral, show q.generalCount = 29 from hcount]
          rfl
        rw [PoolSide.admits, hgeneral, Bool.or_true]
      refine Tracker.waitingFor_front hslots (fun z hz u hu => ?_) hheld ?_
      · rw [beq_false_of_ne (hfirst z hz u hu), Bool.false_and]
      · rw [hbank]
        change (b == b && p.admits b) = true
        rw [hroom, beq_self_eq_true, Bool.and_true]
    have hstops : s1.host.tracker.waitingFor (fun o => (o.bank == b) && s1.pool.admits o.bank) = none := by
      refine Tracker.waitingFor_none fun z _ u _ => ?_
      by_cases hu : u.bank = b
      · have hgeneral : o.isGeneral = true := by rw [BankOp.isGeneral, hown]
        have hfullAgain : ({ q with waiting := q.waiting ++ [o] } : Bank).generalCount = 30 := by
          have : q.generalCount = 29 := hcount
          rw [Bank.generalCount] at this ⊢
          simp only [List.countP_append, List.countP_singleton, hgeneral, if_true]
          omega
        have hnoroom : s1.pool.admits b = false := by
          have hfailed : s1.pool.bankFailed b = false := hnotFailed
          have hb : s1.pool.bank b = { q with waiting := q.waiting ++ [o] } := PoolSide.bank_setBank_self _ _ _
          rw [PoolSide.admits, hfailed, hb, Bank.hasGeneral, hfullAgain]
          rfl
        rw [hu, hnoroom, Bool.and_false]
      · rw [beq_false_of_ne hu, Bool.false_and]
    have hadmitted : s0.admitHeld (· == b) = s1 := by
      have hlength : s0.host.tracker.slots.length = (older ++ younger).length + 1 := by
        change s.host.tracker.slots.length = _
        rw [hslots]
        simp
        omega
      rw [State.admitHeld, hlength, State.admitNext, hwaits]
      dsimp only
      rw [hfirstPlace]
      exact State.admitNext_stop hstops _
    let h2 : HostSide := h1.setTracker (h1.tracker.countBack n)
    have hback : h1.resultBack s1.pool.control.stride e = h2 := by
      refine HostSide.resultBack_discarded hissuer (fun z hz => ?_) _
      obtain ⟨hmem, hnum⟩ := Tracker.mem_of_slot? hz
      have hnums : ∀ z ∈ older ++ y :: younger, z.num ≠ n := by
        intro z hz
        rw [hslots] at hfree
        rcases List.mem_append.mp hz with h | h
        · exact hfree z (List.mem_append_left _ h)
        · rcases List.mem_cons.mp h with rfl | h
          · exact hfree x (List.mem_append_right _ List.mem_cons_self)
          · exact hfree z (List.mem_append_right _ (List.mem_cons_of_mem _ h))
      exact absurd hnum (hnums z hmem)
    have hsettled : h2.settle = h2 := by
      refine HostSide.settle_quiescent ⟨fun z hz => ?_, hquiet.2⟩
      have hslotsz : ∀ z ∈ older ++ y :: younger, z.state ≠ .completing ∧ (z.state = .awaiting → z.ended ≠ z.issued) := by
        intro z hz
        have hall := hquiet.1
        rw [hslots] at hall
        rcases List.mem_append.mp hz with h | h
        · exact hall z (List.mem_append_left _ h)
        · rcases List.mem_cons.mp h with rfl | h
          · rw [show y.state = .issuing from hissuing]
            exact ⟨nofun, nofun⟩
          · exact hall z (List.mem_append_right _ (List.mem_cons_of_mem _ h))
      exact hslotsz z hz
    have hdelivered : s.deliver ((Work.start s.pool).endOp b ip f) (· == b) = s1.setHost h2 := by
      rw [Work.endOp_slot hissuer (f := f) rfl, State.deliver]
      change ((s0.admitHeld (· == b)).setHost (([e].foldl (fun h e =>
        h.resultBack (s0.admitHeld (· == b)).pool.control.stride e) (s0.admitHeld (· == b)).host).settle)) = _
      rw [hadmitted]
      change s1.setHost (h1.resultBack s1.pool.control.stride e).settle = _
      rw [hback, hsettled]
    refine ⟨_, exec_stores hcur hg, ?_, ?_, ?_, s.deliver_pending _ _⟩
    · rw [hdelivered]
      exact PoolSide.bank_setBank_self _ _ _
    · rw [hdelivered]
      obtain ⟨h1, h2, h3, h4, h5, h6, h7, h8⟩ := s.pool.keptBut_afterOp b ip.op.row f
      exact ⟨h1, h2, h3, h4, h5, h6, h7, fun i hi => (PoolSide.bank_setBank_of_ne _ hi.symm _).trans (h8 i hi)⟩
    · rw [hdelivered]
      rfl

/-- Settles O40. -/
theorem bankTakesNext : Obligations.BankTakesNext := by
  intro p b hcur x takes
  have htakes : ∀ o rest, p.beginOp b o rest = takes o rest := fun o rest => by
    rw [PoolSide.beginOp, PoolSide.takeOp_eq]
  have hset : ∀ (y : Bank), y.cur = none → { y with cur := none } = y := fun y hy => by rw [← hy]
  refine ⟨fun older o younger hwaiting hrow hfirst => ?_, fun o younger hwaiting hnone => ?_, fun hwaiting hactive => ?_,
    fun hwaiting hfailed => ?_⟩
  · obtain ⟨hnext, herase⟩ := Bank.nextOp?_row hwaiting hrow hfirst
    rw [PoolSide.takeNext_takes hnext, herase, htakes]
  · obtain ⟨hnext, herase⟩ := Bank.nextOp?_oldest hwaiting hnone
    rw [PoolSide.takeNext_takes hnext, herase, htakes]
  · rw [PoolSide.takeNext_nil hwaiting, if_neg (by rw [PoolSide.bankFailed, hactive]; nofun)]
  · rw [PoolSide.takeNext_nil hwaiting, if_pos ((p.bankFailed_iff b).mpr hfailed)]
end

section
/-! PROOF. The end of a migration's STEP and a target failure: what the migration controller leaves. -/

namespace Sys2Proof.Machine

/-! ## Rows of the health table under offers -/

/-- Each entry of `q`'s health table is of a row that has one in `p`'s. -/
def PoolSide.rowsOf (p q : PoolSide) : Prop :=
  ∀ e ∈ q.health.table, ∃ f ∈ p.health.table, e.bank = f.bank ∧ e.row = f.row

theorem PoolSide.rowsOf.refl (p : PoolSide) : p.rowsOf p := fun e he => ⟨e, he, rfl, rfl⟩

theorem PoolSide.rowsOf.trans {p q r : PoolSide} (h : p.rowsOf q) (k : q.rowsOf r) : p.rowsOf r := fun e he => by
  obtain ⟨f, hf, hbank, hrow⟩ := k e he
  obtain ⟨g, hg, gbank, grow⟩ := h f hf
  exact ⟨g, hg, hbank.trans gbank, hrow.trans grow⟩

theorem PoolSide.rowsOf_modifyEntry (p : PoolSide) (b : BankNo) (r : RowNo) {f : HealthEntry → HealthEntry}
    (hf : ∀ e, (f e).bank = e.bank ∧ (f e).row = e.row) : p.rowsOf (p.modifyEntry b r f) := fun e he => by
  obtain ⟨g, hg, rfl⟩ := List.mem_map.mp he
  refine ⟨g, hg, ?_⟩
  split
  · exact hf g
  · exact ⟨rfl, rfl⟩

theorem HealthEntry.queuedSignal_row (e : HealthEntry) : e.queuedSignal.bank = e.bank ∧ e.queuedSignal.row = e.row := by
  unfold HealthEntry.queuedSignal
  split <;> exact ⟨rfl, rfl⟩

theorem PoolSide.rowsOf_offerEntry (p : PoolSide) (b : BankNo) (r : RowNo) : p.rowsOf (p.offerEntry b r) := by
  unfold PoolSide.offerEntry
  split
  case h_1 =>
    refine PoolSide.rowsOf.trans (q := p.offer b r) (fun e he => ⟨e, ?_, rfl, rfl⟩)
      (PoolSide.rowsOf_modifyEntry _ b r fun e => e.queuedSignal_row)
    rw [PoolSide.offer] at he
    split at he <;> exact he
  case h_2 => exact p.rowsOf_modifyEntry b r fun _ => ⟨rfl, rfl⟩
  case h_3 => exact p.rowsOf_modifyEntry b r fun _ => ⟨rfl, rfl⟩
  case h_4 => exact fun e he => ⟨e, (List.mem_filter.mp he).1, rfl, rfl⟩

theorem PoolSide.rowsOf_offerRoom (k : Nat) (p : PoolSide) : p.rowsOf (p.offerRoom k) := by
  induction k generalizing p with
  | zero => exact .refl p
  | succ k ih =>
    rw [PoolSide.offerRoom]
    split
    · exact .refl p
    · split
      · exact .refl p
      · exact (p.rowsOf_offerEntry _ _).trans (ih _)

theorem PoolSide.rowsOf_signalRoom (p : PoolSide) : p.rowsOf p.signalRoom := p.rowsOf_offerRoom _

/-! ## What follows a STEP at its bank -/

/-- What a bank's taking and the placing of the next STEP leave beside the banks. -/
theorem PoolSide.afterStep_kept (p : PoolSide) (b : BankNo) : ((p.takeNext b).placeStep b).migration = p.migration
    ∧ ((p.takeNext b).placeStep b).spares = p.spares ∧ ((p.takeNext b).placeStep b).health = p.health := by
  obtain ⟨y, hy⟩ := (p.takeNext b).placeStep_eq b
  obtain ⟨x, hx⟩ := p.takeNext_eq b
  rw [hy, hx]
  exact ⟨rfl, rfl, rfl⟩

/-- What waits after a taking waited before. -/
theorem PoolSide.takeNext_waiting {p : PoolSide} {b : BankNo} {o : BankOp} (ho : o ∈ ((p.takeNext b).bank b).waiting) :
    o ∈ (p.bank b).waiting := by
  rw [PoolSide.takeNext_bank] at ho
  split at ho
  · exact List.mem_of_mem_erase ho
  · split at ho <;> exact ho

/-- The operation that a bank with nothing in progress takes was waiting. -/
theorem PoolSide.takeNext_cur {p : PoolSide} {b : BankNo} (hcur : (p.bank b).cur = none) {y : InProgress}
    (hy : ((p.takeNext b).bank b).cur = some y) : y.op ∈ (p.bank b).waiting := by
  rw [PoolSide.takeNext_bank] at hy
  split at hy
  case h_1 o hnext => exact Option.some.inj hy ▸ Bank.nextOp?_mem hnext
  case h_2 => split at hy <;> exact absurd (hcur.symm.trans hy) (by nofun)

theorem PoolSide.takeNext_record {p : PoolSide} {b : BankNo} (h : p.bankFailed b = true → (p.bank b).record = none) :
    ((p.takeNext b).bank b).record = (p.bank b).record := by
  rw [PoolSide.takeNext_bank]
  split
  · rfl
  · split
    case isTrue hfailed => exact (h hfailed).symm
    case isFalse => rfl

theorem PoolSide.placeStep_record (p : PoolSide) (b : BankNo) : ((p.placeStep b).bank b).record = (p.bank b).record := by
  rw [PoolSide.placeStep]
  split
  · split
    · rfl
    · rw [PoolSide.arrive_bank]
      change ((p.setBank b _).bank b).record = _
      rw [PoolSide.bank_setBank_self]
      split <;> rfl
  · rfl

theorem PoolSide.afterStep_record {p : PoolSide} {b : BankNo} (h : p.bankFailed b = true → (p.bank b).record = none) :
    (((p.takeNext b).placeStep b).bank b).record = (p.bank b).record := by
  rw [PoolSide.placeStep_record, PoolSide.takeNext_record h]

/-- The first or next STEP at a bank with nothing to do. -/
theorem PoolSide.afterStep_placed {p : PoolSide} {b : BankNo} {m : MigRecord} (hactive : p.bankFailed b = false)
    (hcur : (p.bank b).cur = none) (hwaiting : (p.bank b).waiting = []) (hrecord : (p.bank b).record = some m) :
    ((p.takeNext b).placeStep b).bank b = {
      state := .working, waiting := [], openRow := some m.row, retry := 0
      cur := some { op := stepOp b m.row, source := p.lookup b m.row, mig := some (m.target, m.cursor) }
      record := some m } := by
  let q := p.setBank b { p.bank b with state := .idle }
  have htaken : p.takeNext b = q := by rw [PoolSide.takeNext_nil hwaiting, hactive, if_neg (by nofun)]
  have hb : q.bank b = { p.bank b with state := .idle } := PoolSide.bank_setBank_self _ _ _
  have hrecordq : (q.bank b).record = some m := by rw [hb]; exact hrecord
  have hplaced : q.placeStep b = q.arrive (stepOp b m.row) := by
    rw [PoolSide.placeStep, hrecordq]
    exact if_neg fun h => by rw [show q.bankFailed b = false from hactive] at h; nomatch h
  rw [htaken, hplaced, PoolSide.arrive_bank]
  refine (PoolSide.bank_setBank_self _ _ _).trans ?_
  change (if (q.bank b).cur = none then ({ q.bank b with
    state := .working, openRow := some m.row, retry := 0
    cur := some { op := stepOp b m.row, source := q.lookup b m.row
                  mig := (q.bank b).record.bind fun n => if n.row = m.row then some (n.target, n.cursor) else none } } : Bank)
    else _) = _
  rw [if_pos (by rw [hb]; exact hcur), hrecordq, Option.bind_some, if_pos rfl, hb]
  dsimp only
  rw [hwaiting, hrecord]
  rfl

/-! ## Acts of the migration controller (R47, R75 to R79) -/

section
variable {w : Work} {b : BankNo} {i : Fin 4} {m : MigSlot} (hslot : w.pool.migration.slotOf? b = some (i, m))
include hslot

theorem Work.stepReport_advances (hbelow : m.cursor + 1 < 32) (hactive : w.pool.bankFailed b = false) :
    w.stepReport b .advanced = w.onPool fun p => p.setMig i { m with cursor := m.cursor + 1 } := by
  rw [Work.stepReport, hslot]
  dsimp only
  rw [if_neg (Nat.not_le.mpr hbelow), hactive, if_neg (by nofun)]

theorem Work.stepReport_completes (hlast : 32 ≤ m.cursor + 1) :
    w.stepReport b .advanced = w.completeMigration i { m with cursor := m.cursor + 1 } := by
  rw [Work.stepReport, hslot]
  exact if_pos hlast

theorem Work.stepReport_targetFailure (hactive : w.pool.bankFailed b = false) :
    w.stepReport b .targetFailed = w.targetFailure i m := by
  rw [Work.stepReport, hslot]
  dsimp only
  rw [hactive, if_neg (by nofun)]

theorem Work.stepReport_abandons (hfailed : w.pool.bankFailed b = true) :
    w.stepReport b .targetFailed = w.abandon i m := by
  rw [Work.stepReport, hslot]
  exact if_pos hfailed

end

/-- A room signal leaves the migration slots, the spares, the banks and the channels. -/
theorem PoolSide.signalRoom_kept (p : PoolSide) : p.signalRoom.migration.slots = p.migration.slots
    ∧ p.signalRoom.spares = p.spares ∧ p.signalRoom.banks = p.banks ∧ p.signalRoom.channels = p.channels := by
  obtain ⟨t, q, h⟩ := p.signalRoom_eq
  rw [h]
  exact ⟨rfl, rfl, rfl, rfl⟩

theorem PoolSide.setRecord_bank (p : PoolSide) (b : BankNo) (r : Option MigRecord) :
    (p.setRecord b r).bank b = { p.bank b with record := r } := PoolSide.bank_setBank_self _ _ _

/-- A migration that fails leaves its slot FREE, no record, and the spares. -/
theorem Work.failMigration_leaves (w : Work) (i : Fin 4) (m : MigSlot) (reason : MigReason) :
    let q := (w.failMigration i m reason).pool
    q.migration.slots = w.pool.migration.slots.set i none ∧ q.spares = w.pool.spares ∧ q.channels = w.pool.channels
      ∧ q.bank m.bank = { w.pool.bank m.bank with record := none } := by
  intro q
  obtain ⟨hslots, hspares, hbanks, hchannels⟩ := PoolSide.signalRoom_kept
    (((w.pool.setMigSlot i none).setRecord m.bank none).signalBlocked m.bank m.row)
  refine ⟨hslots, hspares, hchannels, ?_⟩
  have hbank : q.bank m.bank = ((w.pool.setMigSlot i none).setRecord m.bank none).bank m.bank :=
    congrArg (fun v : Vector Bank 256 => v[m.bank]) hbanks
  rw [hbank, PoolSide.setRecord_bank]
  rfl

/-- A completed migration: the target ACTIVE, a spare source RETIRED, the slot FREE, no record, no entry of the row. -/
theorem Work.completeMigration_leaves (w : Work) (i : Fin 4) (m : MigSlot) :
    let q := (w.completeMigration i m).pool
    q.migration.slots = w.pool.migration.slots.set i none ∧ (q.bank m.bank).record = none
      ∧ (∀ e ∈ q.health.table, ¬(e.bank = m.bank ∧ e.row = m.row))
      ∧ ∀ c x, q.spare c x = if c = m.bank ∧ m.source = some x then .retired
          else if c = m.bank ∧ x = m.target then .active m.row else w.pool.spare c x := by
  intro q
  let p1 := w.pool.setSpare m.bank m.target (.active m.row)
  let p2 := match m.source with | some x => p1.setSpare m.bank x .retired | none => p1
  have hp2 : p2.migration = w.pool.migration ∧ ∀ c x, p2.spare c x =
      if c = m.bank ∧ m.source = some x then .retired
      else if c = m.bank ∧ x = m.target then .active m.row else w.pool.spare c x := by
    have hp1 : ∀ c x, p1.spare c x = if c = m.bank ∧ x = m.target then .active m.row else w.pool.spare c x := fun c x => by
      rw [PoolSide.spare_setSpare]
      exact if_congr (by rw [eq_comm, eq_comm (a := m.target)]) rfl rfl
    change (match m.source with | some x => p1.setSpare m.bank x .retired | none => p1).migration = _
      ∧ ∀ c x, (match m.source with | some x => p1.setSpare m.bank x .retired | none => p1).spare c x = _
    cases m.source with
    | none =>
      refine ⟨rfl, fun c x => ?_⟩
      rw [if_neg fun h => nomatch h.2]
      exact hp1 c x
    | some y =>
      refine ⟨rfl, fun c x => ?_⟩
      rw [← hp1]
      refine (PoolSide.spare_setSpare p1 m.bank c y x .retired).trans ?_
      exact if_congr (by rw [eq_comm, Option.some.injEq]) rfl rfl
  let p3 := ((p2.setMigSlot i none).setRecord m.bank none).signalMigrated m.bank m.row
  obtain ⟨hslots, hspares, hbanks, -⟩ := PoolSide.signalRoom_kept p3
  have hq : q = p3.signalRoom := rfl
  refine ⟨?_, ?_, fun e he => ?_, fun c x => ?_⟩
  · rw [hq, hslots]
    change p2.migration.slots.set i none = _
    rw [hp2.1]
  · have hbank : q.bank m.bank = ((p2.setMigSlot i none).setRecord m.bank none).bank m.bank :=
      congrArg (fun v : Vector Bank 256 => v[m.bank]) hbanks
    rw [hbank, PoolSide.setRecord_bank]
  · obtain ⟨f, hf, hbank, hrow⟩ := p3.rowsOf_signalRoom e he
    obtain ⟨-, hnot⟩ := List.mem_filter.mp hf
    rw [hbank, hrow]
    simpa [HealthEntry.isFor, Decidable.imp_iff_not_or] using hnot
  · rw [← hp2.2]
    exact congrArg (fun v : Vector (Vector Spare 32) 256 => v[c][x]) hspares

/-- An abandoned migration: the target FREE again, the slot FREE. -/
theorem Work.abandon_leaves (w : Work) (i : Fin 4) (m : MigSlot) : let q := (w.abandon i m).pool
    q.migration.slots = w.pool.migration.slots.set i none ∧ q.channels = w.pool.channels ∧ q.banks = w.pool.banks
      ∧ q.spare m.bank m.target = .free := by
  intro q
  obtain ⟨hslots, hspares, hbanks, hchannels⟩ := PoolSide.signalRoom_kept
    ((w.pool.setSpare m.bank m.target .free).setMigSlot i none)
  refine ⟨hslots, hchannels, hbanks, ?_⟩
  have hspare : q.spare m.bank m.target = (w.pool.setSpare m.bank m.target .free).spare m.bank m.target :=
    congrArg (fun v : Vector (Vector Spare 32) 256 => v[m.bank][m.target]) hspares
  rw [hspare, PoolSide.spare_setSpare, if_pos ⟨rfl, rfl⟩]

/-! ## Target failures (R75) -/

theorem Work.targetFailure_limit {m : MigSlot} (hattempt : 3 ≤ m.attempt) (w : Work) (i : Fin 4) : w.targetFailure i m =
    (w.onPool fun p => p.setSpare m.bank m.target .retired).failMigration i m .targetLimit := if_pos hattempt

theorem Work.targetFailure_noSpare {w : Work} {m : MigSlot} (hattempt : m.attempt < 3)
    (hnone : (w.pool.setSpare m.bank m.target .retired).freeSpare m.bank = none) (i : Fin 4) : w.targetFailure i m =
      (w.onPool fun p => p.setSpare m.bank m.target .retired).failMigration i m .noSpare := by
  refine (if_neg (Nat.not_le.mpr hattempt)).trans ?_
  change (match (w.pool.setSpare m.bank m.target .retired).freeSpare m.bank with | some t => _ | none => _) = _
  rw [hnone]

theorem Work.targetFailure_restarts {w : Work} {m : MigSlot} {x : SpareNo} (hattempt : m.attempt < 3)
    (hfree : (w.pool.setSpare m.bank m.target .retired).freeSpare m.bank = some x) (i : Fin 4) : w.targetFailure i m =
      w.onPool fun p => ((p.setSpare m.bank m.target .retired).setSpare m.bank x (.target m.row)).setMig i
        { m with target := x, cursor := 0, attempt := m.attempt + 1 } := by
  refine (if_neg (Nat.not_le.mpr hattempt)).trans ?_
  change (match (w.pool.setSpare m.bank m.target .retired).freeSpare m.bank with | some t => _ | none => _) = _
  rw [hfree]
  rfl

theorem PoolSide.freeSpare_eq_none {p : PoolSide} {b : BankNo} (h : ∀ x, p.spare b x ≠ .free) : p.freeSpare b = none :=
  List.find?_eq_none.mpr fun x _ => by rw [beq_iff_eq]; exact h x

/-- The FREE spare below which none is FREE. -/
theorem PoolSide.freeSpare_eq_some {p : PoolSide} {b : BankNo} {x : SpareNo} (hx : p.spare b x = .free)
    (hlow : ∀ y, y < x → p.spare b y ≠ .free) : p.freeSpare b = some x := by
  refine (find?_eq_some_iff_of_ranked (rank := Fin.val) (List.pairwise_lt_finRange 32) _ x).mpr
    ⟨List.mem_finRange x, beq_iff_eq.mpr hx, fun y _ hy => ?_⟩
  exact Nat.le_of_not_lt fun hlt => hlow y hlt (beq_iff_eq.mp hy)

/-! ## Delivery of a STEP's end -/

/-- The pool side when the migration controller acts on the end of an operation at bank `b`. -/
def PoolSide.committed (p : PoolSide) (b : BankNo) (r : RowNo) (ws : List (Nat × Granule)) (o : Option ErrOutcome) : PoolSide :=
  (p.commit b r ws o).clearCur b

theorem PoolSide.committed_bank (p : PoolSide) (b : BankNo) (r : RowNo) (ws : List (Nat × Granule)) (o : Option ErrOutcome) :
    (p.committed b r ws o).bank b = { p.bank b with state := .idle, cur := none, retry := 0 } :=
  PoolSide.bank_setBank_self _ _ _

theorem Work.endStep_eq {ip : InProgress} {target : SpareNo} {c : Nat} (hmig : ip.mig = some (target, c)) (p : PoolSide)
    (b : BankNo) (source verify : ReadOutcome) : (Work.start p).endStep b ip source verify =
      ((Work.start (p.committed b ip.op.row (p.stepWrites ip target c source) (reportOf source))).stepReport b
        (if verify = .clean then .advanced else .targetFailed)).onPool fun p => (p.takeNext b).placeStep b := by
  rw [Work.endStep, hmig]
  rfl

/-- What the end of a STEP leaves, by what the migration controller's act `w` at it leaves. -/
structure State.StepLeaves (s t : State) (b : BankNo) (w : Work) : Prop where
  pool : t.pool = (w.pool.takeNext b).placeStep b
  migration : t.pool.migration = w.pool.migration
  spares : ∀ c x, t.pool.spare c x = w.pool.spare c x
  health : t.pool.health = w.pool.health
  record : (w.pool.bankFailed b = true → (w.pool.bank b).record = none) → (t.pool.bank b).record = (w.pool.bank b).record
  host : t.host = s.host.raiseAll w.raised

theorem exec_step_ends {s : State} {b : BankNo} {ip : InProgress} (hcur : (s.pool.bank b).cur = some ip)
    (hkind : ip.op.kind = .step) {target : SpareNo} {c : Nat} (hmig : ip.mig = some (target, c))
    (hnone : s.host.tracker.noneHeldFor b) (hquiet : s.host.quiescent) (source verify : ReadOutcome) {w : Work}
    (hw : (Work.start (s.pool.committed b ip.op.row (s.pool.stepWrites ip target c source) (reportOf source))).stepReport b
      (if verify = .clean then .advanced else .targetFailed) = w) (hends : w.ends = []) :
    ∃ t, exec (.stepOperation b source verify) s = .next t ∧ s.StepLeaves t b w := by
  have hexec := exec_stepOperation_of_step source verify hcur hkind
  rw [Work.endStep_eq hmig, hw, State.deliver_quiescent (f := (· == b)) (w := w.onPool _) hquiet
    (fun x hx o ho => beq_false_of_ne (hnone x hx o ho)) hends] at hexec
  obtain ⟨hmigration, hspares, hhealth⟩ := w.pool.afterStep_kept b
  exact ⟨_, hexec, rfl, hmigration, fun c x => congrArg (fun v : Vector (Vector Spare 32) 256 => v[c][x]) hspares, hhealth,
    fun h => PoolSide.afterStep_record h, rfl⟩

/-- The end of a slot's READ that met a target failure, by what the migration controller's act leaves. -/
theorem exec_read_targetFailed {s : State} {b : BankNo} {ip : InProgress} {n : SlotNo} {tag : SlotTag} {k : Nat}
    (source : ReadOutcome) (hcur : (s.pool.bank b).cur = some ip) (hkind : ip.op.kind = .read)
    (hissuer : ip.op.issuer = .slot n tag) (hkey : ip.targetKey? = some k) (hnone : s.host.tracker.noneHeldFor b) :
    ∃ ws o t, exec (.readOperation b .uncorrectable source) s = .next t
      ∧ t.pool = ((Work.start (s.pool.committed b ip.op.row ws o)).hostTargetFailure b ip.op.row).pool.takeNext b := by
  let f := s.pool.readsEffect ip .uncorrectable source
  have hf : f.targetFailed = true := by
    change (PoolSide.readsEffect _ _ _ _).targetFailed = true
    rw [PoolSide.readsEffect, PoolSide.readingEffect_source hkey]
  obtain ⟨es, -, -, hends⟩ := (Work.start (s.pool.committed b ip.op.row f.writes f.report)).hostTargetFailure_raised b ip.op.row
  have hexec := exec_reads (outcome := .uncorrectable) (source := source) hcur (.inl ⟨rfl, hkind⟩)
  rw [Work.endOp_slot_targetFailed hissuer (f := f) hf,
    State.deliver_end hnone (e := { op := ip.op, result := f.result, data := f.data })
      (congrArg (· ++ [_]) hends)] at hexec
  exact ⟨f.writes, f.report, _, hexec, rfl⟩

/-- A target failure of a host operation after the last attempt: the migration fails, and its waiting STEP is void. -/
theorem Work.hostTargetFailure_limit {w : Work} {b : BankNo} {r : RowNo} {i : Fin 4} {m : MigSlot}
    (hslot : w.pool.migration.slotOf? b = some (i, m)) (hrow : m.row = r) (hactive : w.pool.bankFailed b = false)
    (hattempt : 3 ≤ m.attempt) : let q := (w.hostTargetFailure b r).pool
    q.migration.slots = w.pool.migration.slots.set i none ∧ q.spare b m.target = .retired ∧ (q.bank b).record = none
      ∧ (∀ o ∈ (q.bank b).waiting, o.kind ≠ .step) ∧ (q.bank b).cur = (w.pool.bank b).cur := by
  obtain rfl := Migration.slotOf?_bank hslot
  intro q
  obtain ⟨hslots, hspares, -, hbank⟩ :=
    Work.failMigration_leaves (w.onPool fun p => p.setSpare m.bank m.target .retired) i m .targetLimit
  have hact : q = (((w.onPool fun p => p.setSpare m.bank m.target .retired).failMigration i m .targetLimit).pool).voidStep
      m.bank := by
    change (w.hostTargetFailure m.bank r).pool = _
    rw [Work.hostTargetFailure, hslot]
    dsimp only
    rw [if_pos ⟨hrow, hactive⟩, Work.targetFailure_limit hattempt]
    rfl
  generalize ((w.onPool fun p => p.setSpare m.bank m.target .retired).failMigration i m .targetLimit).pool = v
    at hact hslots hspares hbank
  have hvoid : q = v.setBank m.bank { v.bank m.bank with waiting := (v.bank m.bank).waiting.filter fun o => o.kind != .step } := by
    rw [hact, PoolSide.voidStep]
    exact if_pos (by rw [hbank]; rfl)
  rw [hvoid, PoolSide.bank_setBank_self]
  refine ⟨hslots, ?_, ?_, fun o ho => ?_, ?_⟩
  · refine (congrArg (fun v : Vector (Vector Spare 32) 256 => v[m.bank][m.target]) hspares).trans ?_
    exact (PoolSide.spare_setSpare w.pool m.bank m.bank m.target m.target .retired).trans (if_pos ⟨rfl, rfl⟩)
  · rw [hbank]
  · simpa using (List.mem_filter.mp ho).2
  · rw [hbank]
    rfl

end Sys2Proof.Machine

open Sys2Proof Sys2Proof.Machine

/-- Settles O42. -/
theorem stepAdvances : Obligations.StepAdvances := by
  intro s b ip target c source i m hcur hkind hmig hslot hnone hquiet
  obtain rfl := Migration.slotOf?_bank hslot
  let p := s.pool.committed m.bank ip.op.row (s.pool.stepWrites ip target c source) (reportOf source)
  let m1 : MigSlot := { m with cursor := m.cursor + 1 }
  refine ⟨fun hbelow hactive hwaiting => ?_, fun hlast hsource => ?_⟩
  · have hnotFailed : s.pool.bankFailed m.bank = false := by rw [PoolSide.bankFailed, hactive]; rfl
    have hreport : (Work.start p).stepReport m.bank .advanced = (Work.start p).onPool fun p => p.setMig i m1 :=
      Work.stepReport_advances (w := Work.start p) hslot hbelow hnotFailed
    obtain ⟨t, hexec, hleaves⟩ := exec_step_ends hcur hkind hmig hnone hquiet source .clean hreport rfl
    have hpbank : p.bank m.bank = { s.pool.bank m.bank with state := .idle, cur := none, retry := 0 } :=
      s.pool.committed_bank m.bank _ _ _
    have hqbank : (p.setMig i m1).bank m.bank = { p.bank m.bank with record := some m1.record } :=
      PoolSide.setRecord_bank _ _ _
    have hplaced := PoolSide.afterStep_placed (p := p.setMig i m1) (b := m.bank) (m := m1.record) hnotFailed
      (by rw [hqbank, hpbank]) (by rw [hqbank, hpbank]; exact hwaiting) (by rw [hqbank])
    exact ⟨t, hexec, hleaves.migration, (congrArg (fun q : PoolSide => q.bank m.bank) hleaves.pool).trans hplaced,
      by have h := hleaves.pool; rw [h]; exact (PoolSide.afterStep_kept _ _).2.1, hleaves.health, hleaves.host⟩
  · have hreport := Work.stepReport_completes (w := Work.start p) hslot hlast
    obtain ⟨hslots, hrecord, htable, hspare⟩ := Work.completeMigration_leaves (Work.start p) i m1
    obtain ⟨t, hexec, hleaves⟩ := exec_step_ends hcur hkind hmig hnone hquiet source .clean hreport rfl
    have hspareq : ∀ c x, t.pool.spare c x = if c = m.bank ∧ m.source = some x then .retired
        else if c = m.bank ∧ x = m.target then .active m.row else s.pool.spare c x :=
      fun c x => (hleaves.spares c x).trans (hspare c x)
    refine ⟨t, hexec, ?_, fun x hx => ?_, fun x htgt hsrc => ?_, fun j x hj => ?_, ?_, ?_, fun e he => ?_, hleaves.host⟩
    · rw [hspareq, if_neg fun h => hsource h.2, if_pos ⟨rfl, rfl⟩]
    · rw [hspareq, if_pos ⟨rfl, hx⟩]
    · rw [hspareq, if_neg fun h => hsrc h.2, if_neg fun h => htgt h.2]
    · rw [hspareq, if_neg fun h => hj h.1, if_neg fun h => hj h.1]
    · rw [hleaves.migration]
      exact hslots
    · exact (hleaves.record fun _ => hrecord).trans hrecord
    · exact htable e (hleaves.health ▸ he)

/-- Settles O43. -/
theorem targetFailures : Obligations.TargetFailures := by
  intro s b ip i m source verify hcur hslot hnone hquiet htarget hverify
  obtain rfl := Migration.slotOf?_bank hslot
  intro c active gone
  have hfailed : active → s.pool.bankFailed m.bank = false := fun h => by rw [PoolSide.bankFailed, h]; rfl
  refine ⟨?step, ?read⟩
  case read =>
    intro n tag k hkind hissuer hkey hrow hactive hattempt
    obtain ⟨ws, o, t, hexec, hpool⟩ := exec_read_targetFailed source hcur hkind hissuer hkey hnone
    obtain ⟨hslots, hspare, hrecord, hwaiting, hqcur⟩ := Work.hostTargetFailure_limit
      (w := Work.start (s.pool.committed m.bank ip.op.row ws o)) hslot hrow.symm (hfailed hactive) hattempt
    have hidle := congrArg Bank.cur (s.pool.committed_bank m.bank ip.op.row ws o)
    generalize ((Work.start (s.pool.committed m.bank ip.op.row ws o)).hostTargetFailure m.bank ip.op.row).pool = q at *
    obtain ⟨x, hx⟩ := q.takeNext_eq m.bank
    refine ⟨t, hexec, ?_, ?_, ?_, ?_, ?_⟩
    · rw [hpool, hx]
      exact hspare
    · rw [hpool, hx]
      exact hslots
    · rw [hpool]
      exact (PoolSide.takeNext_record fun _ => hrecord).trans hrecord
    · rw [hpool]
      exact fun o ho => hwaiting o (PoolSide.takeNext_waiting ho)
    · rw [hpool]
      exact fun y hy => hwaiting y.op (PoolSide.takeNext_cur (hqcur.trans hidle) hy)
  case step =>
    rintro ⟨target, g, hkind, hmig⟩
    let p := s.pool.committed m.bank ip.op.row (s.pool.stepWrites ip target g source) (reportOf source)
    let r := p.setSpare m.bank m.target .retired
    have hr : ∀ x, r.spare m.bank x = if m.target = x then .retired else s.pool.spare m.bank x := fun x =>
      (PoolSide.spare_setSpare p m.bank m.bank m.target x .retired).trans (if_congr (and_iff_right rfl) rfl rfl)
    have hrfree : ∀ x, r.spare m.bank x = .free ↔ s.pool.spare m.bank x = .free := fun x => by
      rw [hr]
      by_cases hx : m.target = x
      · rw [if_pos hx, ← hx, htarget]
        exact ⟨nofun, nofun⟩
      · rw [if_neg hx]
    have hexec : ∀ {w : Work}, (Work.start p).stepReport m.bank .targetFailed = w → w.ends = [] →
        ∃ t, exec c s = .next t ∧ s.StepLeaves t m.bank w := fun hw hends =>
      exec_step_ends hcur hkind hmig hnone hquiet source verify (by rw [if_neg hverify]; exact hw) hends
    have hreport : active → (Work.start p).stepReport m.bank .targetFailed = (Work.start p).targetFailure i m := fun h =>
      Work.stepReport_targetFailure (w := Work.start p) hslot (hfailed h)
    -- The two ways in which a migration fails leave the same state, but for the reason of the event.
    have hfails : ∀ reason, (Work.start p).stepReport m.bank .targetFailed = (Work.start r).failMigration i m reason →
        ∃ t, exec c s = .next t ∧ t.pool.spare m.bank m.target = .retired ∧ gone t reason := fun reason hw => by
      obtain ⟨hslots, hspares, -, hbank⟩ := Work.failMigration_leaves (Work.start r) i m reason
      obtain ⟨t, hnext, hleaves⟩ := hexec hw rfl
      refine ⟨t, hnext, ?_, ?_, ?_, hleaves.host⟩
      · rw [hleaves.spares]
        exact (congrArg (fun v : Vector (Vector Spare 32) 256 => v[m.bank][m.target]) hspares).trans
          ((hr _).trans (if_pos rfl))
      · rw [hleaves.migration]
        exact hslots
      · rw [hleaves.record fun _ => by rw [hbank], hbank]
    refine ⟨fun hactive hattempt x hx hlow => ?restarts, fun hactive hattempt => ?limit, fun hactive hattempt hnofree => ?noSpare,
      fun hchannel hwaiting => ?abandons⟩
    case limit => exact hfails .targetLimit ((hreport hactive).trans (Work.targetFailure_limit hattempt _ i))
    case noSpare =>
      have hnospare : (p.setSpare m.bank m.target .retired).freeSpare m.bank = none :=
        PoolSide.freeSpare_eq_none fun x h => hnofree x ((hrfree x).mp h)
      exact hfails .noSpare ((hreport hactive).trans (Work.targetFailure_noSpare (w := Work.start p) hattempt hnospare i))
    case restarts =>
      have hspare : (p.setSpare m.bank m.target .retired).freeSpare m.bank = some x :=
        PoolSide.freeSpare_eq_some ((hrfree x).mpr hx) fun y hy h => hlow y hy ((hrfree y).mp h)
      let m1 : MigSlot := { m with target := x, cursor := 0, attempt := m.attempt + 1 }
      let q := (r.setSpare m.bank x (.target m.row)).setMig i m1
      have hw : (Work.start p).stepReport m.bank .targetFailed = Work.start q :=
        (hreport hactive).trans (Work.targetFailure_restarts (w := Work.start p) hattempt hspare i)
      obtain ⟨t, hnext, hleaves⟩ := hexec hw rfl
      have hqbank : q.bank m.bank = { r.bank m.bank with record := some m1.record } := PoolSide.setRecord_bank _ _ _
      have hqspare : ∀ y, q.spare m.bank y = if x = y then .target m.row else r.spare m.bank y := fun y =>
        (PoolSide.spare_setSpare r m.bank m.bank x y _).trans (if_congr (and_iff_right rfl) rfl rfl)
      have hne : x ≠ m.target := fun h => by rw [h, htarget] at hx; nomatch hx
      refine ⟨t, hnext, ?_, ?_, hleaves.migration, ?_, hleaves.host⟩
      · exact (hleaves.spares _ _).trans ((hqspare _).trans ((if_neg hne).trans ((hr _).trans (if_pos rfl))))
      · exact (hleaves.spares _ _).trans ((hqspare _).trans (if_pos rfl))
      · have hnotFailed : q.bankFailed m.bank = false := hfailed hactive
        refine (hleaves.record fun h => ?_).trans (congrArg Bank.record hqbank)
        exact absurd (hnotFailed.symm.trans h) (by nofun)
    case abandons =>
      have hbad : p.bankFailed m.bank = true := (s.pool.bankFailed_iff m.bank).mpr hchannel
      have hw := Work.stepReport_abandons (w := Work.start p) hslot hbad
      obtain ⟨hslots, hchannels, hbanks, hfree⟩ := Work.abandon_leaves (Work.start p) i m
      obtain ⟨t, hnext, hleaves⟩ := hexec hw rfl
      have hhost := hleaves.host
      have hpwaiting : (p.bank m.bank).waiting = [] :=
        (congrArg Bank.waiting (s.pool.committed_bank m.bank _ _ _)).trans hwaiting
      refine ⟨t, hnext, (hleaves.spares _ _).trans hfree, ?_, ?_, hhost⟩
      · rw [hleaves.migration]
        exact hslots
      · have hpool := hleaves.pool
        generalize ((Work.start p).abandon i m).pool = q at hchannels hbanks hpool
        have hqwaiting : (q.bank m.bank).waiting = [] :=
          (congrArg (fun v : Vector Bank 256 => v[m.bank].waiting) hbanks).trans hpwaiting
        have hqf : q.bankFailed m.bank = true :=
          (congrArg (fun v : Vector ChannelState 16 => v[bankChannel m.bank] == .failed) hchannels).trans hbad
        rw [hpool, PoolSide.placeStep_record, PoolSide.takeNext_nil hqwaiting, if_pos hqf, PoolSide.bank_setBank_self]

end

section
/-! PROOF. A command error at a bank: the retry, the operation's end in a FAILED channel, and the failure of a channel. -/

namespace Sys2Proof.Machine

/-! ## The banks of a channel (R1) -/

theorem mem_channelBanks (c : ChanNo) (i : BankNo) : i ∈ channelBanks c ↔ bankChannel i = c := by
  rw [channelBanks, List.mem_map]
  constructor
  · rintro ⟨k, hk, rfl⟩
    rw [List.mem_range] at hk
    apply Fin.ext
    rw [bankChannel_val, Fin.val_ofNat]
    omega
  · rintro rfl
    refine ⟨i.val % 16, List.mem_range.mpr (Nat.mod_lt _ (by decide)), Fin.ext ?_⟩
    rw [bankChannel_val, Fin.val_ofNat]
    omega

theorem nodup_channelBanks (c : ChanNo) : (channelBanks c).Nodup := by
  refine List.Nodup.map_on (fun i hi j hj h => ?_) List.nodup_range
  rw [List.mem_range] at hi hj
  have hval := congrArg Fin.val h
  rw [Fin.val_ofNat, Fin.val_ofNat] at hval
  omega

theorem flatMap_eq_of_unique {α β : Type} {xs : List α} (hxs : xs.Nodup) {a : α} (ha : a ∈ xs) {f : α → List β}
    (hf : ∀ x ∈ xs, x ≠ a → f x = []) : xs.flatMap f = f a := by
  obtain ⟨older, younger, rfl⟩ := List.append_of_mem ha
  rw [List.nodup_append, List.nodup_cons] at hxs
  obtain ⟨-, ⟨hyounger, -⟩, holder⟩ := hxs
  have hnil : ∀ ys : List α, (∀ y ∈ ys, f y = []) → ys.flatMap f = [] := fun ys hys => List.flatMap_eq_nil_iff.mpr hys
  rw [List.flatMap_append, List.flatMap_cons,
    hnil older fun y hy => hf y (List.mem_append_left _ hy) (holder y hy a List.mem_cons_self),
    hnil younger fun y hy => hf y (List.mem_append_right _ (List.mem_cons_of_mem _ hy)) fun h => hyounger (h ▸ hy),
    List.nil_append, List.append_nil]

/-! ## Operations that end with CHANNEL_FAILED (R37) -/

/-- What the hand-back of an operation that ended with CHANNEL_FAILED leaves while no visit is owed. -/
def PoolSide.keptAtFailure (p q : PoolSide) : Prop := q.banks = p.banks ∧ q.scrub.owed = p.scrub.owed

theorem PoolSide.keptAtFailure.refl (p : PoolSide) : p.keptAtFailure p := ⟨rfl, rfl⟩

theorem PoolSide.keptAtFailure.trans {p q r : PoolSide} (h : p.keptAtFailure q) (k : q.keptAtFailure r) : p.keptAtFailure r :=
  ⟨k.1.trans h.1, k.2.trans h.2⟩

theorem Work.keptAtFailure_formatWriteEnd (w : Work) (b : BankNo) : w.pool.keptAtFailure (w.formatWriteEnd b).pool := by
  have hcheck (v : Work) : v.pool.keptAtFailure v.formatCheck.pool := by
    rw [Work.formatCheck]
    split
    · split
      · exact ⟨rfl, rfl⟩
      · exact .refl _
    · exact .refl _
  rw [Work.formatWriteEnd]
  split
  · exact .refl _
  · exact hcheck (w.onPool _)

theorem Work.keptAtFailure_visitEnd (w : Work) (b : BankNo) (r : RowNo) : w.pool.keptAtFailure (w.visitEnd b r).pool := by
  rw [Work.visitEnd]
  split
  · exact ⟨rfl, rfl⟩
  · exact .refl _

theorem Work.keptAtFailure_rowEnd {w : Work} (howed : w.pool.scrub.owed = false) (c : ScrubRow) :
    w.pool.keptAtFailure (w.rowEnd c).pool := by
  have h := Work.keptAtFailure_visitEnd (w.onPool fun p => p.setScrub { p.scrub with cur := none }) c.bank c.row
  rw [Work.rowEnd]
  dsimp only
  rw [if_neg fun hyes => by rw [h.2] at hyes; rw [show w.pool.scrub.owed = true from hyes] at howed; nomatch howed]
  exact PoolSide.keptAtFailure.trans ⟨rfl, rfl⟩ h

theorem Work.keptAtFailure_abandon (w : Work) (i : Fin 4) (m : MigSlot) : w.pool.keptAtFailure (w.abandon i m).pool := by
  obtain ⟨t, q, h⟩ := PoolSide.signalRoom_eq ((w.pool.setSpare m.bank m.target .free).setMigSlot i none)
  have hpool : (w.abandon i m).pool = ((w.pool.setSpare m.bank m.target .free).setMigSlot i none).signalRoom := rfl
  rw [hpool, h]
  exact ⟨rfl, rfl⟩

theorem Work.keptAtFailure_handBack {w : Work} (howed : w.pool.scrub.owed = false) (o : BankOp) :
    w.pool.keptAtFailure (w.handBack { op := o, result := .channelFailed, data := 0 } false).pool := by
  rw [Work.handBack]
  dsimp only
  split
  case h_1 => exact .refl _
  case h_2 => exact w.keptAtFailure_formatWriteEnd _
  case h_3 =>
    rw [Work.scrubResult]
    split
    · exact .refl _
    · dsimp only
      rw [if_pos (.inl rfl)]
      exact Work.keptAtFailure_rowEnd howed _
  case h_4 =>
    rw [Work.stepReport]
    split
    · exact .refl _
    · exact w.keptAtFailure_abandon _ _

/-- The hand-backs of a channel failure. -/
def Work.handBackAll (w : Work) (ends : List BankOp) : Work :=
  ends.foldl (fun w o => w.handBack { op := o, result := .channelFailed, data := 0 } false) w

theorem Work.keptAtFailure_handBackAll (ends : List BankOp) {w : Work} (howed : w.pool.scrub.owed = false) :
    w.pool.keptAtFailure (w.handBackAll ends).pool := by
  induction ends generalizing w with
  | nil => exact .refl _
  | cons o ends ih =>
    have h := Work.keptAtFailure_handBack howed o
    exact h.trans (ih (h.2.trans howed))

theorem Work.sameStore_handBackAll (ends : List BankOp) (w : Work) : w.pool.sameStore (w.handBackAll ends).pool := by
  induction ends generalizing w with
  | nil => exact .refl _
  | cons o ends ih => exact (w.sameStore_handBack _ _).trans (ih _)

/-! ## The failure of a channel (R36, R37, R39) -/

/-- The pool side at the failure of the channel of bank `b`, before the operations of its banks are handed back. -/
def PoolSide.failing (p : PoolSide) (b : BankNo) : PoolSide :=
  ((p.setChannels (p.channels.set (bankChannel b) .failed)).setBanks
    (Vector.ofFn fun i => if bankChannel i = bankChannel b then (p.bank i).failed (i == b) else p.bank i)).setSignals
    (p.signals ++ signalTargets.map fun t => (t, bankChannel b))

/-- The operations that end at the failure of the channel of bank `b`. -/
def PoolSide.failEnds (p : PoolSide) (b : BankNo) : List BankOp :=
  (channelBanks (bankChannel b)).flatMap fun i => (p.bank i).failEnds (i == b)

theorem Work.failChannel_eq (p : PoolSide) (b : BankNo) : (Work.start p).failChannel b =
    ((Work.start (p.failing b)).raise (.channelFailed (bankChannel b))).handBackAll (p.failEnds b) := rfl

theorem PoolSide.failing_bank (p : PoolSide) (b i : BankNo) : (p.failing b).bank i =
    if bankChannel i = bankChannel b then (p.bank i).failed (i == b) else p.bank i := by
  simp [PoolSide.failing, PoolSide.bank]

theorem PoolSide.failing_kept (p : PoolSide) (b : BankNo) : (p.failing b).mem = p.mem ∧ (p.failing b).reports = p.reports
    ∧ (p.failing b).control = p.control ∧ (p.failing b).spares = p.spares ∧ (p.failing b).migration = p.migration
    ∧ (p.failing b).health = p.health ∧ (p.failing b).scrub = p.scrub := by
  simp [PoolSide.failing]

theorem PoolSide.failing_bankFailed (p : PoolSide) {b i : BankNo} (h : bankChannel i = bankChannel b) :
    (p.failing b).bankFailed i = true := by
  simp [PoolSide.bankFailed, PoolSide.failing, h]

/-- A bank with an operation on its first attempt carries it on. -/
theorem Bank.failed_carriesOn {x : Bank} (hcur : x.cur ≠ none) (hfirst : x.state ≠ .retrying) :
    x.failed false = { x with waiting := [] } := by
  refine if_pos ⟨Option.isSome_iff_ne_none.mpr hcur, ?_⟩
  rw [Bank.endsAtFailure, Bool.false_or, beq_eq_false_iff_ne]
  exact hfirst

theorem Bank.failed_closes {x : Bank} {met : Bool} (h : met = true ∨ x.cur = none ∨ x.state = .retrying) :
    x.failed met = { state := .closed, waiting := [], cur := none, openRow := none, record := none, retry := 0 } := by
  refine if_neg ?_
  rintro ⟨hcur, hgoes⟩
  rcases h with rfl | h | h
  · nomatch hgoes
  · rw [h] at hcur
    nomatch hcur
  · rw [Bank.endsAtFailure, h, beq_self_eq_true, Bool.or_true] at hgoes
    nomatch hgoes

/-- Operations admitted to banks of FAILED channels alone change nothing on the pool side. -/
theorem State.admitNext_failed {f : BankNo → Bool} (k : Nat) {s : State} (hf : ∀ b, f b = true → s.pool.bankFailed b = true) :
    (s.admitNext f k).pool = s.pool := by
  induction k generalizing s with
  | zero => rfl
  | succ k ih =>
    rw [State.admitNext]
    split
    case h_2 => rfl
    case h_1 n o hnext =>
      have hfo := Tracker.waitingFor_holds hnext
      rw [Bool.and_eq_true] at hfo
      have hplaced : (s.placeOp n o).pool = s.pool := by
        rw [State.placeOp, if_pos (hf _ hfo.1)]
        rfl
      rw [ih (s := s.placeOp n o) (by rw [hplaced]; exact hf), hplaced]

/-! ## COMMAND_ERROR -/

theorem exec_commandError_last {s : State} {b : BankNo} {ip : InProgress} (hcur : (s.pool.bank b).cur = some ip)
    (hlast : s.pool.retries b = false) : exec (.commandError b) s =
      .next (s.deliver ((Work.start s.pool).lastError b ip) fun i => bankChannel i == bankChannel b) := by
  change execCommandError b s = _
  rw [execCommandError, hcur]
  dsimp only
  rw [hlast, if_neg (by nofun)]

theorem PoolSide.retries_iff (p : PoolSide) (b : BankNo) :
    p.retries b = true ↔ p.bankFailed b = false ∧ (p.bank b).retry < 8 := by
  rw [PoolSide.retries, Bool.and_eq_true, Bool.not_eq_true', decide_eq_true_iff]
  rfl

end Sys2Proof.Machine

open Sys2Proof Sys2Proof.Machine

/-- Settles O44. -/
theorem commandErrors : Obligations.CommandErrors := by
  intro s b ip n tag hcur x ch none_ e st
  have hheld : none_ → ∀ y ∈ s.host.tracker.slots, ∀ o, y.held = some o → (bankChannel o.bank == ch) = false :=
    fun h y hy o ho => beq_false_of_ne (h y hy o ho)
  refine ⟨fun hactive hretry => ?again, fun hfailed hissuer hnone => ?ends, fun hactive hretry howed => ?fails⟩
  case again =>
    have hretries : s.pool.retries b = true :=
      (s.pool.retries_iff b).mpr ⟨by rw [PoolSide.bankFailed, hactive]; rfl, hretry⟩
    have hexec : execCommandError b s = .next (s.setPool (s.pool.retryOp b)) := by
      rw [execCommandError, hcur]
      exact if_pos hretries
    exact hexec
  case ends =>
    have hbad : s.pool.bankFailed b = true := (s.pool.bankFailed_iff b).mpr hfailed
    have hretries : s.pool.retries b = false := Bool.eq_false_iff.mpr fun h => by
      obtain ⟨h, -⟩ := (s.pool.retries_iff b).mp h
      exact absurd (h.symm.trans hbad) (by nofun)
    have hwork : (Work.start s.pool).lastError b ip =
        { pool := (s.pool.clearCur b).takeNext b, raised := [], ends := [e] } := by
      refine (if_pos hbad).trans ?_
      rw [Work.handBack]
      dsimp only
      rw [hissuer]
      rfl
    rw [exec_commandError_last hcur hretries, hwork, State.deliver_none (hheld hnone)]
    obtain ⟨y, hy⟩ := (s.pool.clearCur b).takeNext_eq b
    have hcontrol : ((s.pool.clearCur b).takeNext b).control = s.pool.control := by
      rw [hy]
      rfl
    dsimp only
    rw [hcontrol]
    rfl
  case fails =>
    have hgood : s.pool.bankFailed b = false := by rw [PoolSide.bankFailed, hactive]; rfl
    have hretries : s.pool.retries b = false := Bool.eq_false_iff.mpr fun h => by
      have := ((s.pool.retries_iff b).mp h).2
      change 8 ≤ (s.pool.bank b).retry at hretry
      omega
    let w := ((Work.start (s.pool.failing b)).raise (.channelFailed ch)).handBackAll (s.pool.failEnds b)
    have hexec : exec (.commandError b) s = .next (s.deliver w fun i => bankChannel i == ch) := by
      rw [exec_commandError_last hcur hretries, Work.lastError, if_neg (by
        change ¬s.pool.bankFailed b = true
        rw [hgood]
        nofun), Work.failChannel_eq]
    obtain ⟨hbanks, -⟩ : (s.pool.failing b).keptAtFailure w.pool :=
      Work.keptAtFailure_handBackAll (s.pool.failEnds b)
        (w := (Work.start (s.pool.failing b)).raise (.channelFailed ch)) howed
    obtain ⟨hmem, hreports, hchannels, hsignals, -⟩ : (s.pool.failing b).sameStore w.pool :=
      Work.sameStore_handBackAll (s.pool.failEnds b) ((Work.start (s.pool.failing b)).raise (.channelFailed ch))
    have hpool : (s.deliver w fun i => bankChannel i == ch).pool = w.pool := by
      refine State.admitNext_failed (f := fun i => bankChannel i == ch) _ (s := s.deliverEvents w) fun i hi => ?_
      change w.pool.bankFailed i = true
      rw [PoolSide.bankFailed, hchannels]
      exact s.pool.failing_bankFailed (beq_iff_eq.mp hi)
    have hbank : ∀ i, (s.deliver w fun i => bankChannel i == ch).pool.bank i = if bankChannel i = ch then
        (s.pool.bank i).failed (i == b) else s.pool.bank i := fun i => by
      rw [hpool, ← s.pool.failing_bank b i]
      exact congrArg (fun v : Vector Bank 256 => v[i]) hbanks
    obtain ⟨fmem, freports, fcontrol, fspares, fmigration, fhealth, fscrub⟩ := s.pool.failing_kept b
    have hsent : (s.pool.failing b).signals = s.pool.signals
        ++ [(.poolControl, ch), (.migrationController, ch), (.healthMonitor, ch), (.tracker, ch)] := rfl
    generalize hdelivered : s.deliver w (fun i => bankChannel i == ch) = t at hexec hpool hbank
    refine ⟨t, hexec, (congrArg PoolSide.channels hpool).trans hchannels, (congrArg PoolSide.mem hpool).trans (hmem.trans fmem),
      (congrArg PoolSide.reports hpool).trans (hreports.trans freports), (congrArg PoolSide.signals hpool).trans (hsignals.trans hsent), fun i hi => ?_,
      fun i hi hne hicur hifirst => ?_, fun i hi hcloses => ?_, fun hissuer hnone hwaiting hothers => ?_⟩
    · rw [hbank, if_neg hi]
    · rw [hbank, if_pos hi, beq_false_of_ne hne, Bank.failed_carriesOn hicur hifirst]
    · rw [hbank, if_pos hi]
      exact Bank.failed_closes (hcloses.imp_left fun h => beq_iff_eq.mpr h)
    · have hends : s.pool.failEnds b = [ip.op] := by
        rw [PoolSide.failEnds, flatMap_eq_of_unique (nodup_channelBanks ch) ((mem_channelBanks ch b).mpr rfl) fun i hi hne => ?_]
        · rw [Bank.failEnds, hcur, show (s.pool.bank b).waiting = [] from hwaiting]
          dsimp only
          rw [if_pos (by rw [Bank.endsAtFailure, beq_self_eq_true, Bool.true_or])]
        · obtain ⟨hicur, hiwaiting⟩ := hothers i ((mem_channelBanks ch i).mp hi) hne
          rw [Bank.failEnds, hicur]
          exact hiwaiting
      have hwork : w = { pool := s.pool.failing b, raised := [.channelFailed ch], ends := [e] } := by
        change Work.handBackAll _ (s.pool.failEnds b) = _
        rw [hends, Work.handBackAll, List.foldl_cons, List.foldl_nil, Work.handBack]
        dsimp only
        rw [hissuer]
        rfl
      rw [hpool, ← hdelivered, State.deliver_none (hheld hnone), hwork]
      exact ⟨congrArg (fun c : PoolControl => ((s.host.raise (.channelFailed ch)).resultBack c.stride e).settle) fcontrol,
        fcontrol, fspares, fmigration, fhealth, fscrub⟩

end

section
/-! PROOF. The failure signal of a channel at each of the four blocks that receive it. -/

namespace Sys2Proof.Machine

/-- The cursor with the banks of a channel done (R15). -/
def FormatCursor.markDone (f : FormatCursor) (ch : ChanNo) : FormatCursor :=
  { f with banks := Vector.ofFn fun b =>
      if bankChannel b = ch then { f.banks[b] with done := true } else f.banks[b] }

theorem exec_signal {s : State} {target : SignalTarget} {ch : ChanNo} (hsent : (target, ch) ∈ s.pool.signals) :
    exec (.channelFailureSignal target ch) s =
      .next ((s.setPool (s.pool.setSignals (s.pool.signals.erase (target, ch)))).signal target ch) := if_pos hsent

theorem PoolSide.answer_failed {p : PoolSide} {b : BankNo} (h : p.bankFailed b = true) (r : RowNo) :
    p.answer b r = .channelFailed := if_pos h

theorem PoolSide.offerEntry_failed {p : PoolSide} {b : BankNo} (h : p.bankFailed b = true) (r : RowNo) :
    p.offerEntry b r = p.removeEntry b r := by
  rw [PoolSide.offerEntry, PoolSide.answer_failed h]

theorem Health.nextOffer_eq_none {h : Health} (hnone : ∀ e ∈ h.table, e.state = .candidate → e.queued = true) :
    h.nextOffer = none := by
  refine List.find?_eq_none.mpr fun e he => ?_
  rw [Bool.and_eq_true, beq_iff_eq, Bool.not_eq_true']
  rintro ⟨hstate, hqueued⟩
  exact absurd (hqueued.symm.trans (hnone e he hstate)) (by nofun)

theorem HealthEntry.isFor_iff (e : HealthEntry) (b : BankNo) (r : RowNo) : e.isFor b r = true ↔ e.bank = b ∧ e.row = r := by
  rw [HealthEntry.isFor, Bool.and_eq_true, beq_iff_eq, beq_iff_eq]

/-- The row's entry removed from among the others. -/
theorem filter_isFor_middle {older younger : List HealthEntry} {e : HealthEntry}
    (hother : ∀ f ∈ older ++ younger, ¬(f.bank = e.bank ∧ f.row = e.row)) :
    ((older ++ e :: younger).filter fun f => !f.isFor e.bank e.row) = older ++ younger := by
  have hkeep : ∀ f ∈ older ++ younger, (!f.isFor e.bank e.row) = true := fun f hf => by
    rw [Bool.not_eq_true', ← Bool.not_eq_true, HealthEntry.isFor_iff]
    exact hother f hf
  have hself : (!e.isFor e.bank e.row) = false := by
    rw [Bool.not_eq_false', HealthEntry.isFor_iff]
    exact ⟨rfl, rfl⟩
  rw [List.filter_append, List.filter_cons, hself, if_neg (by nofun), ← List.filter_append, List.filter_eq_self.mpr hkeep]

/-- One CANDIDATE entry of a FAILED channel waits for room: it is offered, refused and removed. -/
theorem PoolSide.signalRoom_refused {p : PoolSide} {older younger : List HealthEntry} {e : HealthEntry}
    (htable : p.health.table = older ++ e :: younger) (hfailed : p.bankFailed e.bank = true) (hstate : e.state = .candidate)
    (hqueued : e.queued = false)
    (hother : ∀ f ∈ older ++ younger, (f.state = .candidate → f.queued = true) ∧ ¬(f.bank = e.bank ∧ f.row = e.row)) :
    p.signalRoom = p.setTable (older ++ younger) := by
  have hnext : p.health.nextOffer = some e := by
    have holder : older.find? (fun e => e.state == .candidate && !e.queued) = none := by
      have := Health.nextOffer_eq_none (h := { p.health with table := older })
        fun f hf => (hother f (List.mem_append_left _ hf)).1
      exact this
    rw [Health.nextOffer, htable, List.find?_append, holder, List.find?_cons, hstate, hqueued]
    rfl
  have hremoved : p.removeEntry e.bank e.row = p.setTable (older ++ younger) := by
    rw [PoolSide.removeEntry, htable, filter_isFor_middle fun f hf => (hother f hf).2]
  have hlength : p.health.table.length = (older ++ younger).length + 1 := by
    rw [htable]
    simp
    omega
  rw [PoolSide.signalRoom, hlength, PoolSide.offerRoom, hnext]
  dsimp only
  rw [PoolSide.answer_failed hfailed, if_neg (by nofun), PoolSide.offerEntry_failed hfailed, hremoved]
  have hstop : (p.setTable (older ++ younger)).health.nextOffer = none :=
    Health.nextOffer_eq_none fun f hf => (hother f hf).1
  cases (older ++ younger).length <;> simp [PoolSide.offerRoom, hstop]

end Sys2Proof.Machine

open Sys2Proof Sys2Proof.Machine

/-- Settles O45. -/
theorem failureSignals : Obligations.FailureSignals := by
  intro s ch after
  refine ⟨fun target hnot => if_neg hnot, fun hsent => ?poolControl, fun hsent hqueued => ?migration,
    fun hsent hfailed older e younger htable hbank hstate hqueued hother => ?refused, fun hsent => exec_signal hsent,
    fun hsent x o k hslots hheld hissuer hbank hfailed hkind hissuing hnext hmore hconfig => ?tracker⟩
  case poolControl =>
    let p := (after .poolControl).pool
    have hexec := exec_signal hsent
    have hdelivered : ∀ w, (Work.start p).poolSignal ch = w → exec (.channelFailureSignal .poolControl ch) s =
        .next ((after .poolControl).deliverEvents w) := fun w hw => by
      rw [hexec, ← hw]
      rfl
    refine ⟨fun honline => ?_, fun hother => ?_, fun f hformatting hcursor hleft => ?_⟩
    · have hw : (Work.start p).poolSignal ch =
          (Work.start p).onPool fun p => p.setControl { p.control with state := .degraded } := by
        rw [Work.poolSignal, show (Work.start p).pool.control.state = .online from honline]
      exact (hdelivered _ hw).trans rfl
    · have hw : (Work.start p).poolSignal ch = Work.start p := by
        rw [Work.poolSignal]
        rcases hother with h | h
        · rw [show (Work.start p).pool.control.state = .degraded from h]
        · rw [show (Work.start p).pool.control.state = .offline from h]
      exact (hdelivered _ hw).trans rfl
    · have hg : ∀ i : BankNo, (f.markDone ch).banks[i] =
          if bankChannel i = ch then { f.banks[i] with done := true } else f.banks[i] :=
        fun i => by simp [FormatCursor.markDone]
      have hturn : (f.markDone ch).turn = f.turn := by rw [FormatCursor.markDone]
      have hw : (Work.start p).poolSignal ch =
          ((Work.start p).onPool fun p => p.setCursor (some (f.markDone ch))).formatCheck := by
        rw [Work.poolSignal, show (Work.start p).pool.control.state = .formatting from hformatting]
        dsimp only
        rw [show (Work.start p).pool.control.cursor = some f from hcursor, FormatCursor.markDone]
      generalize f.markDone ch = g at hg hturn hw
      have hnotDone : g.allDone = false := by
        obtain ⟨i, hi, hnot⟩ := hleft
        refine Bool.eq_false_iff.mpr fun h => ?_
        have hall := List.all_eq_true.mp h g.banks[i] (by simp)
        rw [hg, if_neg hi, hnot] at hall
        nomatch hall
      have hgoesOn : ((Work.start p).onPool fun p => p.setCursor (some g)).formatCheck =
          (Work.start p).onPool fun p => p.setCursor (some g) := by
        rw [Work.formatCheck]
        exact if_neg (by rw [hnotDone]; nofun)
      exact ⟨_, g, hdelivered _ (hw.trans hgoesOn), rfl, rfl, hturn, hg⟩
  case migration =>
    refine (exec_signal hsent).trans ?_
    change Host.Outcome.next ((after .migrationController).setPool ((after .migrationController).pool.removeCandidates ch)) = _
    exact congrArg (fun q => Host.Outcome.next ((after .migrationController).setPool q))
      (PoolSide.signalRoom_none (p := (after .migrationController).pool.setMigration _) (Health.nextOffer_eq_none hqueued))
  case refused =>
    refine (exec_signal hsent).trans ?_
    change Host.Outcome.next ((after .migrationController).setPool ((after .migrationController).pool.removeCandidates ch)) = _
    have hbad : s.pool.bankFailed e.bank = true := (s.pool.bankFailed_iff e.bank).mpr (hbank ▸ hfailed)
    exact congrArg (fun q => Host.Outcome.next ((after .migrationController).setPool q))
      (PoolSide.signalRoom_refused (p := (after .migrationController).pool.setMigration _) htable hbad hstate hqueued hother)
  case tracker =>
    let st := s.pool.control.stride
    let e : OpEnd := { op := o, result := .channelFailed, data := 0 }
    let a := max x.req.a (st.address o.bank o.row o.gran 0)
    let x1 := x.issuedAt k
    let y := x1.count a .channelFailed
    have hsafe : s.host.tracker.safe := by
      rw [Tracker.safe, hslots]
      exact List.nodup_singleton _
    have hbad : (after .tracker).pool.bankFailed o.bank = true := (s.pool.bankFailed_iff o.bank).mpr (hbank ▸ hfailed)
    let h1 : HostSide := s.host.setTracker { s.host.tracker.countIssue x.num with slots := [x1] }
    have hissued : s.host.issued st x.num o = h1 := HostSide.issued_middle (older := []) (younger := []) hsafe hslots hnext
      hmore (by rw [hkind]; nofun) (by rw [hkind]; nofun) st o
    have hslot1 : h1.tracker.slot? x.num = some x1 := HostSide.slot?_single (h := h1) (x := x1) rfl
    let h2 : HostSide := (h1.setTracker (h1.tracker.countBack x.num)).modifySlot x.num fun y => y.count a .channelFailed
    have hback : h1.resultBack st e = h2 := by
      rw [HostSide.resultBack_gathered (n := x.num) (x := x1) hissuer hslot1,
        HostSide.gather_counts (by change x.req.kind ≠ _; rw [hkind]; nofun) (by change x.req.kind ≠ _; rw [hkind]; nofun)]
      rfl
    have hslots2 : h2.tracker.slots = [y] := by
      change [x1].map (fun s => if s.num = x.num then s.count a .channelFailed else s) = [y]
      rw [List.map_singleton, if_pos (show x1.num = x.num from rfl)]
    have hy := x1.count_eq a .channelFailed
    have hstate : y.state = .issuing := (congrArg Slot.state hy).trans hissuing
    have hsettled : h2.settle = h2 := HostSide.settle_quiescent ⟨by
      rw [hslots2]
      intro z hz
      rw [List.mem_singleton.mp hz, hstate]
      exact ⟨nofun, nofun⟩, hconfig⟩
    have hplaced : (after .tracker).placeOp x.num o = (after .tracker).setHost h2 := by
      rw [State.placeOp, if_pos hbad]
      change (after .tracker).setHost ((s.host.issued st x.num o).resultBack st e) = _
      rw [hissued, hback]
    have hadmitted : (after .tracker).admitHeld (fun b => bankChannel b == ch) = (after .tracker).setHost h2 := by
      have hwaits : (after .tracker).host.tracker.waitingFor (fun o => (bankChannel o.bank == ch)
          && (after .tracker).pool.admits o.bank) = some (x.num, o) :=
        Tracker.waitingFor_front (older := []) (younger := []) hslots (fun _ hy => absurd hy List.not_mem_nil) hheld (by
          rw [PoolSide.admits, hbad, hbank, beq_self_eq_true]
          rfl)
      have hlength : (after .tracker).host.tracker.slots.length = 0 + 1 := congrArg List.length hslots
      rw [State.admitHeld, hlength, State.admitNext, hwaits]
      dsimp only
      rw [hplaced]
      rfl
    have hexec : exec (.channelFailureSignal .tracker ch) s = .next ((after .tracker).setHost h2) := by
      rw [exec_signal hsent]
      change Host.Outcome.next (((after .tracker).admitHeld fun b => bankChannel b == ch).setHost
        ((after .tracker).admitHeld fun b => bankChannel b == ch).host.settle) = _
      rw [hadmitted]
      exact congrArg (fun h => Host.Outcome.next ((after .tracker).setHost h)) hsettled
    exact ⟨_, y, hexec, rfl, hslots2, congrArg Slot.held hy, congrArg Slot.issued hy, congrArg Slot.ended hy,
      congrArg Slot.next hy, (congrArg Slot.channelFailed hy).trans (Bool.or_true _), hstate⟩

end

section
/-! PROOF. An outcome report at the health monitor. -/

namespace Sys2Proof.Machine

/-! ## One entry of the table -/

/-- No entry of a list is the row's. -/
def noneFor (t : List HealthEntry) (b : BankNo) (r : RowNo) : Prop := ∀ f ∈ t, ¬(f.bank = b ∧ f.row = r)

theorem find?_isFor_none {t : List HealthEntry} {b : BankNo} {r : RowNo} (h : noneFor t b r) :
    t.find? (fun e => e.isFor b r) = none :=
  List.find?_eq_none.mpr fun f hf => by rw [HealthEntry.isFor_iff]; exact h f hf

theorem find?_isFor_middle {older younger : List HealthEntry} {e : HealthEntry} {b : BankNo} {r : RowNo}
    (he : e.bank = b ∧ e.row = r) (hother : noneFor older b r) :
    (older ++ e :: younger).find? (fun e => e.isFor b r) = some e := by
  rw [List.find?_append, find?_isFor_none hother, List.find?_cons, (e.isFor_iff b r).mpr he]
  rfl

theorem map_isFor_none {t : List HealthEntry} {b : BankNo} {r : RowNo} (h : noneFor t b r) (f : HealthEntry → HealthEntry) :
    (t.map fun e => if e.isFor b r then f e else e) = t := by
  conv => rhs; rw [← List.map_id t]
  exact List.map_congr_left fun e he => if_neg (by rw [HealthEntry.isFor_iff]; exact h e he)

/-- The row's entry changed among the others. -/
theorem PoolSide.modifyEntry_middle {p : PoolSide} {older younger : List HealthEntry} {e : HealthEntry} {b : BankNo}
    {r : RowNo} (htable : p.health.table = older ++ e :: younger) (he : e.bank = b ∧ e.row = r)
    (hother : noneFor (older ++ younger) b r) (f : HealthEntry → HealthEntry) :
    p.modifyEntry b r f = p.setTable (older ++ f e :: younger) := by
  rw [PoolSide.modifyEntry, htable, List.map_append, List.map_cons, if_pos ((e.isFor_iff b r).mpr he),
    map_isFor_none fun g hg => hother g (List.mem_append_left _ hg),
    map_isFor_none fun g hg => hother g (List.mem_append_right _ hg)]

/-! ## Offers of a row (R58, R89) -/

/-- The offer of a CANDIDATE row that has no pending offer. -/
theorem PoolSide.offerEntry_accepted {p : PoolSide} {older younger : List HealthEntry} {e : HealthEntry} {b : BankNo}
    {r : RowNo} (hanswer : p.answer b r = .accepted) (htable : p.health.table = older ++ e :: younger)
    (he : e.bank = b ∧ e.row = r) (hstate : e.state = .candidate) (hother : noneFor (older ++ younger) b r) :
    p.offerEntry b r = (p.setMigration { p.migration with queue := p.migration.queue ++ [(b, r)] }).setTable
      (older ++ { e with queued := true } :: younger) := by
  have hsignal : ({ e.queuedSignal with queued := true } : HealthEntry) = { e with queued := true } := by
    rw [HealthEntry.queuedSignal_eq, if_pos (by rw [hstate]; nofun), ← hstate]
  rw [PoolSide.offerEntry, hanswer]
  dsimp only
  rw [PoolSide.offer, if_pos hanswer]
  refine (PoolSide.modifyEntry_middle
    (p := p.setMigration { p.migration with queue := p.migration.queue ++ [(b, r)] }) htable he hother _).trans ?_
  rw [hsignal]

theorem PoolSide.offerEntry_queueFull {p : PoolSide} {older younger : List HealthEntry} {e : HealthEntry} {b : BankNo}
    {r : RowNo} (hanswer : p.answer b r = .queueFull) (htable : p.health.table = older ++ e :: younger)
    (he : e.bank = b ∧ e.row = r) (hqueued : e.queued = false) (hother : noneFor (older ++ younger) b r) :
    p.offerEntry b r = p.setTable (older ++ e :: younger) := by
  have hself : ({ e with queued := false } : HealthEntry) = e := by rw [← hqueued]
  rw [PoolSide.offerEntry, hanswer]
  dsimp only
  rw [PoolSide.modifyEntry_middle htable he hother, hself]

/-! ## Reports (R86 to R88) -/

theorem exec_outcomeReport {s : State} {b : BankNo} {older younger : List Report} {q : Report}
    (hreports : s.pool.reports = older ++ q :: younger) (hq : q.bank = b) (holder : ∀ r ∈ older, r.bank ≠ b) :
    exec (.outcomeReport b) s =
      .next (s.deliverEvents ((Work.start (s.pool.setReports (older ++ younger))).takeReport q)) := by
  have hfind : s.pool.reports.find? (fun r => r.bank == b) = some q := by
    rw [hreports, List.find?_append, List.find?_eq_none.mpr fun r hr => by rw [beq_iff_eq]; exact holder r hr,
      List.find?_cons, beq_iff_eq.mpr hq]
    rfl
  have herase : s.pool.reports.erase q = older ++ younger := by
    rw [hreports, List.erase_append_right _ fun h => holder q h hq, List.erase_cons_head]
  change execOutcomeReport b s = _
  rw [execOutcomeReport, hfind]
  dsimp only
  rw [herase]

theorem HealthEntry.report_eq (e : HealthEntry) (threshold : Nat) (o : ErrOutcome) : e.report threshold o =
    { e with
      count := min 15 (e.count + 1), last := o
      state := if e.state = .watch ∧ (o = .uncorrectable ∨ threshold ≤ min 15 (e.count + 1)) then .candidate
        else e.state } := by
  rw [HealthEntry.report]
  cases hstate : e.state <;> simp

section
variable {w : Work} {q : Report} (hactive : w.pool.bankFailed q.bank = false)
include hactive

theorem Work.takeReport_known {e : HealthEntry}
    (hfind : w.pool.health.table.find? (fun e => e.isFor q.bank q.row) = some e) :
    w.takeReport q = w.onPool fun p => p.countReport q e := by
  rw [Work.takeReport]
  dsimp only
  rw [hactive, if_neg (by nofun), hfind]

theorem Work.takeReport_new (hunknown : noneFor w.pool.health.table q.bank q.row) (hroom : w.pool.health.table.length < 512) :
    w.takeReport q = w.onPool fun p => p.addEntry q := by
  rw [Work.takeReport]
  dsimp only
  rw [hactive, if_neg (by nofun), find?_isFor_none hunknown]
  exact if_pos hroom

theorem Work.takeReport_full (hunknown : noneFor w.pool.health.table q.bank q.row) (hfull : 512 ≤ w.pool.health.table.length) :
    w.takeReport q = match evictee w.pool.health.table with
      | some v => w.onPool fun p => (p.removeEntry v.bank v.row).addEntry q
      | none => if q.outcome = .uncorrectable
          then (w.raise (.healthTableFull q.bank q.row)).onPool fun p => p.offer q.bank q.row
          else w.raise (.healthTableFull q.bank q.row) := by
  rw [Work.takeReport]
  dsimp only
  rw [hactive, if_neg (by nofun), find?_isFor_none hunknown]
  dsimp only
  refine (if_neg (Nat.not_lt.mpr hfull)).trans ?_
  cases evictee w.pool.health.table <;> rfl

end

theorem PoolSide.countReport_counts {p : PoolSide} {q : Report} {older younger : List HealthEntry} {e : HealthEntry}
    (htable : p.health.table = older ++ e :: younger) (he : e.bank = q.bank ∧ e.row = q.row)
    (hother : noneFor (older ++ younger) q.bank q.row) : p.countReport q e =
      let p' := p.setTable (older ++ e.report p.health.threshold q.outcome :: younger)
      if e.state = .watch ∧ (e.report p.health.threshold q.outcome).state = .candidate ∧ e.queued = false then
        p'.offerEntry q.bank q.row
      else p' := by
  rw [PoolSide.countReport, PoolSide.modifyEntry_middle htable he hother]

/-! ## The entry to evict (R88) -/

theorem evictee_watch {t : List HealthEntry} {v : HealthEntry} (h : evictee t = some v) : v ∈ t ∧ v.state = .watch := by
  induction t with
  | nil => nomatch h
  | cons e t ih =>
    rw [evictee] at h
    split at h
    case h_1 =>
      split at h
      case isTrue hwatch => exact Option.some.inj h ▸ ⟨List.mem_cons_self, hwatch⟩
      case isFalse => nomatch h
    case h_2 f hf =>
      split at h
      case isTrue hwatch => exact Option.some.inj h ▸ ⟨List.mem_cons_self, hwatch.1⟩
      case isFalse =>
        obtain ⟨hmem, hwatch⟩ := ih (Option.some.inj h ▸ hf)
        exact ⟨List.mem_cons_of_mem _ hmem, hwatch⟩

theorem evictee_none {t : List HealthEntry} (h : ∀ f ∈ t, f.state ≠ .watch) : evictee t = none := by
  cases hv : evictee t with
  | none => rfl
  | some v =>
    obtain ⟨hmem, hwatch⟩ := evictee_watch hv
    exact absurd hwatch (h v hmem)

/-- The oldest of the WATCH entries of lowest count. -/
theorem evictee_oldest {older younger : List HealthEntry} {v : HealthEntry} (hwatch : v.state = .watch)
    (holder : ∀ f ∈ older, f.state = .watch → v.count < f.count)
    (hyounger : ∀ f ∈ younger, f.state = .watch → v.count ≤ f.count) : evictee (older ++ v :: younger) = some v := by
  induction older with
  | nil =>
    rw [List.nil_append, evictee]
    cases hf : evictee younger with
    | none => exact if_pos hwatch
    | some f =>
      obtain ⟨hmem, hfwatch⟩ := evictee_watch hf
      exact if_pos ⟨hwatch, hyounger f hmem hfwatch⟩
  | cons e older ih =>
    rw [List.cons_append, evictee, ih fun f hf => holder f (List.mem_cons_of_mem _ hf)]
    refine if_neg ?_
    rintro ⟨hewatch, hcount⟩
    exact Nat.not_lt.mpr hcount (holder e List.mem_cons_self hewatch)

/-! ## A new entry (R87) -/

/-- An entry that joins the table for a row that the migration controller does not know. -/
def Report.entry (q : Report) (pass : BitVec 32) (state : HealthState) (queued : Bool) : HealthEntry :=
  { bank := q.bank, row := q.row, count := 1, state := state, firstPass := pass, last := q.outcome, queued := queued }

theorem PoolSide.newEntry_unknown {p : PoolSide} {q : Report} (hpending : ¬p.rowPending q.bank q.row) :
    p.newEntry q = q.entry p.scrub.pass
      (if q.outcome = .uncorrectable ∨ p.health.threshold ≤ 1 then .candidate else .watch) false := by
  rw [← p.rowPending_iff, Bool.not_eq_true, Bool.or_eq_false_iff] at hpending
  obtain ⟨hqueue, hmigrating⟩ := hpending
  rw [PoolSide.newEntry, hqueue, hmigrating]
  rfl

theorem PoolSide.addEntry_watch {p : PoolSide} {q : Report} (hpending : ¬p.rowPending q.bank q.row)
    (houtcome : q.outcome = .corrected) (hthreshold : 1 < p.health.threshold) :
    p.addEntry q = p.setTable (p.health.table ++ [q.entry p.scrub.pass .watch false]) := by
  have hnew : p.newEntry q = q.entry p.scrub.pass .watch false := by
    rw [PoolSide.newEntry_unknown hpending, if_neg]
    rw [houtcome]
    rintro (h | h)
    · nomatch h
    · omega
  rw [PoolSide.addEntry, hnew]
  exact if_neg fun h => absurd h.1 (by nofun)

theorem PoolSide.addEntry_candidate {p : PoolSide} {q : Report} (hpending : ¬p.rowPending q.bank q.row)
    (hcrosses : q.outcome = .uncorrectable ∨ p.health.threshold ≤ 1) :
    p.addEntry q = (p.setTable (p.health.table ++ [q.entry p.scrub.pass .candidate false])).offerEntry q.bank q.row := by
  have hnew : p.newEntry q = q.entry p.scrub.pass .candidate false := by
    rw [PoolSide.newEntry_unknown hpending, if_pos hcrosses]
  rw [PoolSide.addEntry, hnew]
  exact if_pos ⟨rfl, rfl⟩

end Sys2Proof.Machine

open Sys2Proof Sys2Proof.Machine

/-- Settles O46. -/
theorem outcomeReports : Obligations.OutcomeReports := by
  intro s b older younger q hreports hq holder
  subst hq
  intro p table threshold queue takes offered e' known
  have hexec := exec_outcomeReport hreports rfl holder
  have htakes : ∀ tbl q', (Work.start p).takeReport q = Work.start ((p.setHealth { s.pool.health with table := tbl }).setMigration
      { s.pool.migration with queue := q' }) → takes tbl q' := fun tbl q' hw => by
    change exec (.outcomeReport q.bank) s = _
    rw [hexec, hw]
    rfl
  have hpending : offered → ¬p.rowPending q.bank q.row := by
    rintro ⟨hqueue, hslots⟩ (h | ⟨i, m, h, hm⟩)
    · exact hqueue h
    · exact hslots i m h hm
  refine ⟨fun hfailed => ?failed, fun hactive => ?active⟩
  case failed =>
    have hbad : p.bankFailed q.bank = true := (s.pool.bankFailed_iff q.bank).mpr hfailed
    rw [hexec, show (Work.start p).takeReport q = Work.start p from if_pos hbad]
    rfl
  case active =>
    have hgood : p.bankFailed q.bank = false := (s.pool.bankFailed_eq_false_iff q.bank).mpr hactive
    -- What the migration queue answers to the offer of a row that it does not know.
    have haccepted : ∀ t, offered → queue.length < 16 → (p.setTable t).answer q.bank q.row = .accepted :=
      fun t h hroom => PoolSide.answer_accepted (p := p.setTable t) hactive (hpending h) hroom
    have hqueueFull : ∀ t, offered → 16 ≤ queue.length → (p.setTable t).answer q.bank q.row = .queueFull :=
      fun t h hfull => PoolSide.answer_queueFull (p := p.setTable t) hactive (hpending h) hfull
    have hnone : ¬known → noneFor table q.bank q.row := fun h f hf hrow => h ⟨f, hf, hrow⟩
    have hfresh : ∀ t, noneFor t q.bank q.row → noneFor (t ++ []) q.bank q.row := fun t h => by rwa [List.append_nil]
    refine ⟨fun l e r htable hbank hrow hother => ?known, fun hunknown hroom hoffered => ?new,
      fun l v r hunknown hfull htable hwatch hl hr hothers hoffered houtcome hthreshold => ?evicts,
      fun hunknown hfull hnoWatch => ?none⟩
    case known =>
      intro count crosses
      have hcount := PoolSide.countReport_counts (p := p) (q := q) htable ⟨hbank, hrow⟩ hother
      have hw := Work.takeReport_known (w := Work.start p) (q := q) hgood (e := e) (by
        change table.find? _ = _
        rw [htable]
        exact find?_isFor_middle ⟨hbank, hrow⟩ fun f hf => hother f (List.mem_append_left _ hf))
      let f := e.report threshold q.outcome
      have hf : f = { e with count := count, last := q.outcome, state := if crosses then .candidate else e.state } :=
        e.report_eq threshold q.outcome
      have hfrow : f.bank = q.bank ∧ f.row = q.row := by rw [hf]; exact ⟨hbank, hrow⟩
      have hstays : ¬(e.state = .watch ∧ f.state = .candidate ∧ e.queued = false) →
          takes (l ++ f :: r) queue := fun h => htakes _ _ (by
        rw [hw]
        change Work.start (p.countReport q e) = _
        rw [hcount]
        exact congrArg Work.start (if_neg h))
      have hoffers : e.state = .watch ∧ f.state = .candidate ∧ e.queued = false →
          (Work.start p).takeReport q = Work.start ((p.setTable (l ++ f :: r)).offerEntry q.bank q.row) := fun h => by
        rw [hw]
        change Work.start (p.countReport q e) = _
        rw [hcount]
        exact congrArg Work.start (if_pos h)
      refine ⟨fun hnot => ?_, fun hcrosses hqueued => ?_, fun hcrosses hqueued hoffered hroom => ?_,
        fun hcrosses hqueued hoffered hfull => ?_⟩
      · have h := hstays fun h => by
          rw [hf, if_neg hnot] at h
          rw [h.1] at h
          nomatch h.2.1
        rwa [hf, if_neg hnot] at h
      · have h := hstays fun h => by rw [hqueued] at h; nomatch h.2.2
        rwa [hf, if_pos hcrosses] at h
      · have hcandidate : f.state = .candidate := by rw [hf, if_pos hcrosses]
        refine htakes _ _ ((hoffers ⟨hcrosses.1, hcandidate, hqueued⟩).trans ?_)
        rw [PoolSide.offerEntry_accepted (p := p.setTable (l ++ f :: r)) (haccepted _ hoffered hroom) rfl hfrow hcandidate
          hother, hf, if_pos hcrosses]
        rfl
      · have hcandidate : f.state = .candidate := by rw [hf, if_pos hcrosses]
        refine htakes _ _ ((hoffers ⟨hcrosses.1, hcandidate, hqueued⟩).trans ?_)
        rw [PoolSide.offerEntry_queueFull (p := p.setTable (l ++ f :: r)) (hqueueFull _ hoffered hfull) rfl hfrow
          (by rw [hf]; exact hqueued) hother, hf, if_pos hcrosses]
        rfl
    case new =>
      let joins := q.entry s.pool.scrub.pass .candidate false
      have hw := Work.takeReport_new (w := Work.start p) (q := q) hgood (hnone hunknown) hroom
      refine ⟨fun houtcome hthreshold => htakes _ _ ?_, fun hcrosses hlength => htakes _ _ ?_,
        fun hcrosses hlength => htakes _ _ ?_⟩
      · rw [hw]
        exact congrArg Work.start (PoolSide.addEntry_watch (p := p) (hpending hoffered) houtcome hthreshold)
      · rw [hw]
        refine (congrArg Work.start (PoolSide.addEntry_candidate (p := p) (hpending hoffered) hcrosses)).trans ?_
        exact congrArg Work.start (PoolSide.offerEntry_accepted (p := p.setTable (table ++ [joins])) (e := joins)
          (haccepted _ hoffered hlength) rfl ⟨rfl, rfl⟩ rfl (hfresh _ (hnone hunknown)))
      · rw [hw]
        refine (congrArg Work.start (PoolSide.addEntry_candidate (p := p) (hpending hoffered) hcrosses)).trans ?_
        exact congrArg Work.start (PoolSide.offerEntry_queueFull (p := p.setTable (table ++ [joins])) (e := joins)
          (hqueueFull _ hoffered hlength) rfl ⟨rfl, rfl⟩ rfl (hfresh _ (hnone hunknown)))
    case evicts =>
      have hv : evictee p.health.table = some v := by
        change evictee table = some v
        rw [htable]
        exact evictee_oldest hwatch hl hr
      have hremoved : p.removeEntry v.bank v.row = p.setTable (l ++ r) := by
        rw [PoolSide.removeEntry, show p.health.table = l ++ v :: r from htable, filter_isFor_middle hothers]
      have hw := Work.takeReport_full (w := Work.start p) (q := q) hgood (hnone hunknown) hfull
      refine htakes _ _ (hw.trans ?_)
      rw [show evictee (Work.start p).pool.health.table = some v from hv]
      change Work.start ((p.removeEntry v.bank v.row).addEntry q) = _
      rw [hremoved]
      exact congrArg Work.start (PoolSide.addEntry_watch (p := p.setTable (l ++ r)) (hpending hoffered) houtcome hthreshold)
    case none =>
      have hw := Work.takeReport_full (w := Work.start p) (q := q) hgood (hnone hunknown) hfull
      rw [show evictee (Work.start p).pool.health.table = none from evictee_none hnoWatch] at hw
      dsimp only at hw
      refine ⟨fun houtcome => ?_, fun houtcome hoffered hroom => ?_⟩
      · rw [if_neg (by rw [houtcome]; nofun)] at hw
        rw [hexec, hw]
        rfl
      · rw [if_pos houtcome] at hw
        have hanswer : p.answer q.bank q.row = .accepted := haccepted table hoffered hroom
        have hoffer : p.offer q.bank q.row = p.setMigration { s.pool.migration with queue := queue ++ [(q.bank, q.row)] } :=
          if_pos hanswer
        rw [hexec, hw]
        change Host.Outcome.next (s.deliverEvents { pool := p.offer q.bank q.row, raised := _, ends := _ }) = _
        rw [hoffer]
        rfl

end

section
/-! PROOF. The start of a migration. -/

namespace Sys2Proof.Machine

/-! ## Slots and candidates (R60, R62, R64) -/

/-- A migration slot names the bank. -/
def Migration.busy (m : Migration) (b : BankNo) : Prop := ∃ (i : Fin 4) (x : MigSlot), m.slots[i] = some x ∧ x.bank = b

theorem Migration.slotOf?_isNone_iff (m : Migration) (b : BankNo) : (m.slotOf? b).isNone = true ↔ ¬m.busy b := by
  rw [Option.isNone_iff_eq_none, Migration.slotOf?, List.findSome?_eq_none_iff]
  constructor
  · rintro h ⟨i, x, hslot, hbank⟩
    have hi := h i (List.mem_finRange i)
    rw [hslot] at hi
    dsimp only at hi
    rw [if_pos hbank] at hi
    nomatch hi
  · intro h i _
    cases hslot : m.slots[i] with
    | none => rfl
    | some x => exact if_neg fun hbank => h ⟨i, x, hslot, hbank⟩

theorem Migration.candidate?_eq_none {m : Migration} (h : ∀ c ∈ m.queue, m.busy c.1) : m.candidate? = none :=
  List.find?_eq_none.mpr fun c hc => by rw [Migration.slotOf?_isNone_iff]; exact fun hnot => hnot (h c hc)

/-- The oldest candidate whose bank has no slot. -/
theorem Migration.candidate?_eq_some {m : Migration} {older younger : List (BankNo × RowNo)} {c : BankNo × RowNo}
    (hqueue : m.queue = older ++ c :: younger) (holder : ∀ d ∈ older, m.busy d.1) (hfree : ¬m.busy c.1) :
    m.candidate? = some c := by
  have hnone : older.find? (fun c => (m.slotOf? c.1).isNone) = none :=
    List.find?_eq_none.mpr fun d hd => by rw [Migration.slotOf?_isNone_iff]; exact fun hnot => hnot (holder d hd)
  rw [Migration.candidate?, hqueue, List.find?_append, hnone, List.find?_cons, (m.slotOf?_isNone_iff c.1).mpr hfree]
  rfl

theorem Migration.freeSlot?_eq_none {m : Migration} (h : ∀ i : Fin 4, m.slots[i] ≠ none) : m.freeSlot? = none :=
  List.find?_eq_none.mpr fun i _ => by rw [Option.isNone_iff_eq_none]; exact h i

theorem Migration.freeSlot?_eq_some {m : Migration} {i : Fin 4} (hi : m.slots[i] = none)
    (hlow : ∀ j : Fin 4, j < i → m.slots[j] ≠ none) : m.freeSlot? = some i := by
  refine (find?_eq_some_iff_of_ranked (rank := Fin.val) (List.pairwise_lt_finRange 4) _ i).mpr
    ⟨List.mem_finRange i, Option.isNone_iff_eq_none.mpr hi, fun j _ hj => ?_⟩
  exact Nat.le_of_not_lt fun hlt => hlow j hlt (Option.isNone_iff_eq_none.mp hj)

/-- Spares that turn neither from nor to ACTIVE do not move a row. -/
theorem PoolSide.lookup_congr {p q : PoolSide} {b : BankNo} {r : RowNo}
    (h : ∀ x, q.spare b x = .active r ↔ p.spare b x = .active r) : q.lookup b r = p.lookup b r := by
  rw [PoolSide.lookup, PoolSide.lookup]
  congr 1
  funext x
  rw [Bool.eq_iff_iff, beq_iff_eq, beq_iff_eq, h]

/-! ## The start (R63, R64) -/

theorem Work.startMigration_none {w : Work} (h : w.pool.control.state.serving = false ∨ w.pool.migration.freeSlot? = none
    ∨ w.pool.migration.candidate? = none) : w.startMigration = w := by
  rw [Work.startMigration]
  split
  case h_1 i b r hslot hcandidate =>
    rcases h with h | h | h
    · rw [h]
      rfl
    · exact absurd (h.symm.trans hslot) (by nofun)
    · exact absurd (h.symm.trans hcandidate) (by nofun)
  case h_2 => rfl
  case h_3 => rfl

theorem Work.startMigration_starts {w : Work} {i : Fin 4} {b : BankNo} {r : RowNo} (hserving : w.pool.control.state.serving = true)
    (hslot : w.pool.migration.freeSlot? = some i) (hcandidate : w.pool.migration.candidate? = some (b, r)) :
    w.startMigration = w.startCandidate i b r := by
  rw [Work.startMigration, hslot, hcandidate]
  exact if_pos hserving

/-- The row's entry takes a state. -/
def Health.mark (h : Health) (b : BankNo) (r : RowNo) (st : HealthState) : Health :=
  { h with table := h.table.map fun e => if e.bank = b ∧ e.row = r then { e with state := st, queued := false } else e }

theorem PoolSide.modifyEntry_mark (p : PoolSide) (b : BankNo) (r : RowNo) (st : HealthState) :
    p.modifyEntry b r (fun e => { e with state := st, queued := false }) = p.setHealth (p.health.mark b r st) := by
  refine congrArg (fun t => p.setTable t) (List.map_congr_left fun e _ => ?_)
  exact if_congr (e.isFor_iff b r) rfl rfl

/-- Marking a row leaves no CANDIDATE entry with a clear flag that was not there. -/
theorem Health.mark_nextOffer {h : Health} (hqueued : ∀ e ∈ h.table, e.state = .candidate → e.queued = true) (b : BankNo)
    (r : RowNo) {st : HealthState} (hst : st ≠ .candidate) : (h.mark b r st).nextOffer = none := by
  refine Health.nextOffer_eq_none fun e he hcandidate => ?_
  obtain ⟨f, hf, rfl⟩ := List.mem_map.mp he
  by_cases hrow : f.bank = b ∧ f.row = r
  · rw [if_pos hrow] at hcandidate
    exact absurd hcandidate hst
  · rw [if_neg hrow] at hcandidate ⊢
    exact hqueued f hf hcandidate

theorem PoolSide.dropCandidate_eq {p : PoolSide} {older younger : List (BankNo × RowNo)} {b : BankNo} {r : RowNo}
    (hqueue : p.migration.queue = older ++ (b, r) :: younger) (holder : (b, r) ∉ older) :
    p.dropCandidate b r = p.setMigration { p.migration with queue := older ++ younger } := by
  rw [PoolSide.dropCandidate, hqueue, List.erase_append_right _ holder, List.erase_cons_head]

section
variable {p : PoolSide} {i : Fin 4} {older younger : List (BankNo × RowNo)} {b : BankNo} {r : RowNo}
  (hqueue : p.migration.queue = older ++ (b, r) :: younger) (holder : (b, r) ∉ older)
  (hqueued : ∀ e ∈ p.health.table, e.state = .candidate → e.queued = true)
include hqueue holder hqueued

theorem Work.startCandidate_noSpare (hnone : p.freeSpare b = none) : (Work.start p).startCandidate i b r =
    (Work.start ((p.setMigration { p.migration with queue := older ++ younger }).setHealth
      (p.health.mark b r .blocked))).raise (.migrationFailed b r .noSpare) := by
  rw [Work.startCandidate, show (Work.start p).pool.freeSpare b = none from hnone]
  change (Work.start (((p.dropCandidate b r).signalBlocked b r).signalRoom)).raise _ = _
  rw [PoolSide.dropCandidate_eq hqueue holder, PoolSide.signalBlocked, PoolSide.modifyEntry_mark,
    PoolSide.signalRoom_none (Health.mark_nextOffer hqueued b r (by nofun))]
  rfl

/-- The pool side with a migration begun, before its first STEP is placed. -/
def PoolSide.begun (p : PoolSide) (queue : List (BankNo × RowNo)) (i : Fin 4) (s : MigSlot) : PoolSide :=
  ((((p.setMigration { p.migration with queue := queue }).setSpare s.bank s.target (.target s.row)).setMig i s).setHealth
    (p.health.mark s.bank s.row .migrating))

theorem Work.startCandidate_begins {x : SpareNo} (hfree : p.freeSpare b = some x) (hactive : p.bankFailed b = false) :
    (Work.start p).startCandidate i b r = Work.start ((p.begun (older ++ younger) i
      { bank := b, row := r, source := p.lookup b r, target := x, cursor := 0, attempt := 1 }).placeStep b) := by
  rw [Work.startCandidate, show (Work.start p).pool.freeSpare b = some x from hfree]
  dsimp only
  rw [if_neg (by
    change ¬p.bankFailed b = true
    rw [hactive]
    nofun)]
  change Work.start (((((((p.dropCandidate b r).setSpare b x (.target r)).setMig i _).signalMigrating b r).signalRoom)).placeStep
    b) = _
  rw [PoolSide.dropCandidate_eq hqueue holder, PoolSide.signalMigrating, PoolSide.modifyEntry_mark,
    PoolSide.signalRoom_none (Health.mark_nextOffer hqueued b r (by nofun))]
  rfl

end

end Sys2Proof.Machine

open Sys2Proof Sys2Proof.Machine

/-- Settles O48. -/
theorem migrationStarts : Obligations.MigrationStarts := by
  intro s
  refine ⟨fun hnothing => ?nothing, fun i older b r younger hserving hi hlow hqueue holder hfree hqueued => ?starts⟩
  case nothing =>
    have hw : (Work.start s.pool).startMigration = Work.start s.pool := by
      refine Work.startMigration_none (hnothing.imp (fun h => ?_) (Or.imp (fun h => ?_) fun h => ?_))
      · rw [← Bool.not_eq_true, PoolState.serving_iff]
        exact h
      · exact Migration.freeSlot?_eq_none h
      · exact Migration.candidate?_eq_none h
    change Host.Outcome.next (s.deliverEvents (Work.start s.pool).startMigration) = _
    rw [hw]
    rfl
  case starts =>
    have hnotOlder : (b, r) ∉ older := fun h => hfree (holder _ h)
    have hw : (Work.start s.pool).startMigration = (Work.start s.pool).startCandidate i b r :=
      Work.startMigration_starts ((PoolState.serving_iff _).mpr hserving) (Migration.freeSlot?_eq_some hi hlow)
        (Migration.candidate?_eq_some (m := s.pool.migration) hqueue holder hfree)
    have hexec : exec .migrationStart s = .next (s.deliverEvents ((Work.start s.pool).startCandidate i b r)) :=
      congrArg (fun w => Host.Outcome.next (s.deliverEvents w)) hw
    intro entries
    refine ⟨fun hnospare => ?_, fun x hx hxlow hactive hcur => ?_⟩
    · rw [hexec, Work.startCandidate_noSpare hqueue hnotOlder hqueued (PoolSide.freeSpare_eq_none hnospare)]
      rfl
    · have hgood : s.pool.bankFailed b = false := (s.pool.bankFailed_eq_false_iff b).mpr hactive
      let m : MigSlot := { bank := b, row := r, source := s.pool.lookup b r, target := x, cursor := 0, attempt := 1 }
      let q := s.pool.begun (older ++ younger) i m
      rw [Work.startCandidate_begins hqueue hnotOlder hqueued (PoolSide.freeSpare_eq_some hx hxlow) hgood] at hexec
      have hspare : ∀ j y, q.spare j y = if b = j ∧ x = y then .target r else s.pool.spare j y := fun j y =>
        PoolSide.spare_setSpare _ b j x y _
      have hbank : ∀ j, q.bank j = if b = j then { s.pool.bank b with record := some m.record } else s.pool.bank j :=
        fun j => PoolSide.bank_setBank _ b j _
      have hlookup : q.lookup b r = s.pool.lookup b r := PoolSide.lookup_congr fun y => by
        rw [hspare]
        by_cases hy : x = y
        · rw [if_pos ⟨rfl, hy⟩, ← hy, hx]
          exact ⟨by nofun, by nofun⟩
        · rw [if_neg fun h => hy h.2]
      have hqb := hbank b
      rw [if_pos rfl] at hqb
      have hplaced : q.placeStep b = q.setBank b { s.pool.bank b with
          state := .working, openRow := some r, retry := 0
          record := some { row := r, source := s.pool.lookup b r, target := x, cursor := 0 }
          cur := some { op := stepOp b r, source := s.pool.lookup b r, mig := some (x, 0) } } := by
        have harrives : q.placeStep b = q.arrive (stepOp b r) := by
          rw [PoolSide.placeStep, hqb]
          exact if_neg fun h => by rw [show q.bankFailed b = false from hgood] at h; nomatch h
        rw [harrives, PoolSide.arrive_bank]
        change q.setBank b (if (q.bank b).cur = none then ({ q.bank b with
          state := .working, openRow := some r, retry := 0
          cur := some { op := stepOp b r, source := q.lookup b r
                        mig := (q.bank b).record.bind fun n => if n.row = r then some (n.target, n.cursor) else none } } :
          Bank) else _) = _
        rw [hqb, hlookup, if_pos hcur, Option.bind_some, if_pos (show m.record.row = r from rfl)]
        rfl
      refine ⟨_, hexec, ?_⟩
      change (q.placeStep b).migration.queue = _ ∧ (q.placeStep b).migration.slots = _ ∧ (q.placeStep b).spare b x = _
        ∧ (∀ y, y ≠ x → (q.placeStep b).spare b y = _) ∧ (∀ j y, j ≠ b → (q.placeStep b).spare j y = _)
        ∧ (∀ j, j ≠ b → (q.placeStep b).bank j = _) ∧ (q.placeStep b).bank b = _ ∧ (q.placeStep b).health = _
        ∧ (q.placeStep b).mem = _ ∧ (q.placeStep b).control = _ ∧ s.host = _
      rw [hplaced]
      refine ⟨rfl, rfl, ?_, fun y hy => ?_, fun j y hj => ?_, fun j hj => ?_, PoolSide.bank_setBank_self _ _ _, rfl, rfl, rfl,
        rfl⟩
      · exact (hspare b x).trans (if_pos ⟨rfl, rfl⟩)
      · exact (hspare b y).trans (if_neg fun h => hy h.2.symm)
      · exact (hspare j y).trans (if_neg fun h => hj h.1.symm)
      · rw [PoolSide.bank_setBank_of_ne _ hj.symm]
        exact (hbank j).trans (if_neg hj.symm)

end

section
/-! PROOF. The patrol scrubber: visits, the end of a CHECK, rows and passes. -/

namespace Sys2Proof.Machine

/-! ## Visits (R99, R101) -/

/-- The row is of a FAILED channel or in migration. -/
def PoolSide.skips (p : PoolSide) (b : BankNo) (r : RowNo) : Prop := p.channels[bankChannel b] = .failed
  ∨ ∃ (i : Fin 4) (m : MigSlot), p.migration.slots[i] = some m ∧ m.bank = b ∧ m.row = r

theorem PoolSide.passesOver_iff (p : PoolSide) (b : BankNo) (r : RowNo) : p.passesOver b r = true ↔ p.skips b r := by
  rw [PoolSide.passesOver, Bool.or_eq_true, p.bankFailed_iff, p.migrating_iff, PoolSide.skips]

/-- The last position of a pass. -/
abbrev lastPosition (b : BankNo) (r : RowNo) : Prop := r.val = 65535 ∧ b.val = 255

theorem lastPosition_iff (b : BankNo) (r : RowNo) : lastPosition b r ↔ r = 65535 ∧ b = 255 :=
  and_congr (Fin.ext_iff (b := 65535)).symm (Fin.ext_iff (b := 255)).symm

/-- The decay at a pass end, entry by entry. -/
theorem decayTable_eq (t : List HealthEntry) : decayTable t = t.filterMap fun e =>
    if e.state = .watch then (if e.count ≤ 1 then none else some { e with count := e.count - 1 }) else some e := by
  have hentry (e : HealthEntry) : ([e].map fun e => if e.state = .watch then { e with count := e.count - 1 } else e).filter
      (fun e => !(e.state == .watch && e.count == 0)) = [e].filterMap fun e =>
        if e.state = .watch then (if e.count ≤ 1 then none else some { e with count := e.count - 1 }) else some e := by
    by_cases hwatch : e.state = .watch
    · by_cases hcount : e.count ≤ 1
      · have : e.count - 1 = 0 := by omega
        simp [hwatch, hcount, this]
      · have : e.count - 1 ≠ 0 := by omega
        simp [hwatch, hcount, this]
    · simp [hwatch]
  induction t with
  | nil => rfl
  | cons e t ih =>
    have hcons : decayTable (e :: t) = decayTable [e] ++ decayTable t := by
      rw [decayTable, decayTable, decayTable, ← List.filter_append, ← List.map_append]
      rfl
    rw [hcons, ih, show decayTable [e] = _ from hentry e, ← List.filterMap_append]
    rfl

theorem Work.visitEnd_goesOn {b : BankNo} {r : RowNo} (h : ¬lastPosition b r) (w : Work) : w.visitEnd b r = w :=
  if_neg (mt (lastPosition_iff b r).mpr h)

/-- The pass ends with the visit to the last position. -/
theorem Work.visitEnd_last {b : BankNo} {r : RowNo} (h : lastPosition b r) (w : Work) : w.visitEnd b r = w.passEnd :=
  if_pos ((lastPosition_iff b r).mp h)

theorem Work.visit_skips {w : Work} (h : w.pool.skips w.pool.scrub.bank w.pool.scrub.row) :
    w.visit = (w.onPool fun p => p.setScrub p.scrub.advance).visitEnd w.pool.scrub.bank w.pool.scrub.row :=
  if_pos ((w.pool.passesOver_iff _ _).mpr h)

theorem Work.visit_checks {w : Work} (h : ¬w.pool.skips w.pool.scrub.bank w.pool.scrub.row) :
    w.visit = w.onPool fun p => (p.setScrub { p.scrub.advance with
      cur := some { bank := p.scrub.bank, row := p.scrub.row, next := 0 } }).arrive
      (scrubOp p.scrub.bank p.scrub.row 0) :=
  if_neg (mt (w.pool.passesOver_iff _ _).mp h)

theorem Scrub.advance_position (c : Scrub) : c.advance.bank.val = (c.bank.val + 1) % 256
    ∧ c.advance.row.val = if c.bank.val = 255 then (c.row.val + 1) % 65536 else c.row.val := by
  refine ⟨rfl, ?_⟩
  rw [Scrub.advance]
  dsimp only
  by_cases h : c.bank = 255
  · have hval : c.bank.val = 255 := congrArg Fin.val h
    rw [if_pos h, if_pos hval]
    rfl
  · have hval : c.bank.val ≠ 255 := fun hval => h (Fin.ext hval)
    rw [if_neg h, if_neg hval]

/-- The CHECK of a scrubbed row arrives at its bank. -/
theorem PoolSide.arrive_check (p : PoolSide) (c : Scrub) (b : BankNo) (r : RowNo) (g : GranNo) :
    (p.setScrub c).arrive (scrubOp b r g) = (p.setScrub c).setBank b
      (if (p.bank b).cur = none then { p.bank b with
          state := .working, openRow := some r, retry := 0, cur := some (p.takeOp b (scrubOp b r g)) }
        else { p.bank b with waiting := (p.bank b).waiting ++ [scrubOp b r g] }) := by
  rw [PoolSide.arrive_bank, PoolSide.takeOp_eq]
  rfl

end Sys2Proof.Machine

open Sys2Proof Sys2Proof.Machine

/-- Settles O49. -/
theorem scrubVisits : Obligations.ScrubVisits := by
  intro s
  have hexec : ∀ w, (Work.start s.pool).timerExpiry = w → exec .scrubTimerExpiry s = .next (s.deliverEvents w) := fun w h => by
    rw [← h]
    rfl
  refine ⟨fun hstopped => ?_, fun hrunning hcur => ?_, fun hrunning hcur => ?_⟩
  · refine (hexec (Work.start s.pool) ?_).trans rfl
    exact if_neg (by rw [show (Work.start s.pool).pool.scrub.running = false from hstopped]; nofun)
  · refine (hexec ((Work.start s.pool).onPool fun p => p.setScrub { p.scrub with owed := true }) ?_).trans rfl
    exact (if_pos hrunning).trans (if_pos (Option.isSome_iff_ne_none.mpr hcur))
  · have hvisit : (Work.start s.pool).timerExpiry = (Work.start s.pool).visit :=
      (if_pos hrunning).trans (if_neg (by rw [show (Work.start s.pool).pool.scrub.cur = none from hcur]; nofun))
    obtain ⟨hbank, hrow⟩ := s.pool.scrub.advance_position
    by_cases hskip : s.pool.skips s.pool.scrub.bank s.pool.scrub.row
    · have hskipped := hvisit.trans (Work.visit_skips (w := Work.start s.pool) hskip)
      by_cases hlast : lastPosition s.pool.scrub.bank s.pool.scrub.row
      · have hw := hskipped.trans (Work.visitEnd_last hlast _)
        exact ⟨_, hexec _ hw, hbank, hrow, rfl, hrunning, rfl, fun _ => ⟨rfl, hcur⟩, fun _ hnot => absurd hlast hnot,
          fun _ _ => ⟨rfl, rfl, rfl, decayTable_eq _⟩, fun hno => absurd hskip hno, rfl, rfl, rfl⟩
      · have hw := hskipped.trans (Work.visitEnd_goesOn hlast _)
        exact ⟨_, hexec _ hw, hbank, hrow, rfl, hrunning, rfl, fun _ => ⟨rfl, hcur⟩, fun _ _ => ⟨rfl, rfl, rfl⟩,
          fun _ h => absurd h hlast, fun hno => absurd hskip hno, rfl, rfl, rfl⟩
    · have hw := hvisit.trans (Work.visit_checks (w := Work.start s.pool) hskip)
      have harrives := s.pool.arrive_check { s.pool.scrub.advance with
        cur := some { bank := s.pool.scrub.bank, row := s.pool.scrub.row, next := 0 } } s.pool.scrub.bank s.pool.scrub.row 0
      have hw' : (Work.start s.pool).timerExpiry = Work.start _ := hw.trans (congrArg Work.start harrives)
      refine ⟨_, hexec _ hw', hbank, hrow, rfl, hrunning, rfl, fun h => absurd h hskip, fun h => absurd h hskip,
        fun h => absurd h hskip, fun _ => ⟨rfl, rfl, rfl, rfl, fun j hj => PoolSide.bank_setBank_of_ne _ hj.symm _,
          fun hnone => ?_, fun hbusy => ?_⟩, rfl, rfl, rfl⟩
      · exact (PoolSide.bank_setBank_self _ _ _).trans (if_pos hnone)
      · exact (PoolSide.bank_setBank_self _ _ _).trans (if_neg hbusy)

end

section
/-! PROOF. The end of a scrub CHECK. -/

namespace Sys2Proof.Machine

/-! ## The end of a visit and of a row (R98 to R101) -/

/-- The health table after the end of a visit. -/
def tableAfterVisit (last : Prop) [Decidable last] (t : List HealthEntry) : List HealthEntry :=
  if last then (t.filterMap fun e =>
    if e.state = .watch then (if e.count ≤ 1 then none else some { e with count := e.count - 1 }) else some e)
  else t

/-- What the end of a visit to (row `r`, bank `b`) leaves. -/
structure Work.VisitEnded (w v : Work) (b : BankNo) (r : RowNo) : Prop where
  scrub : v.pool.scrub = { w.pool.scrub with
    pass := if lastPosition b r then w.pool.scrub.pass + 1 else w.pool.scrub.pass }
  health : v.pool.health = { w.pool.health with table := tableAfterVisit (lastPosition b r) w.pool.health.table }
  raised : v.raised = w.raised ++ if lastPosition b r then [.scrubPassDone (w.pool.scrub.pass + 1)] else []
  ends : v.ends = w.ends
  banks : v.pool.banks = w.pool.banks
  channels : v.pool.channels = w.pool.channels
  migration : v.pool.migration = w.pool.migration

theorem Work.visitEnd_leaves (w : Work) (b : BankNo) (r : RowNo) : w.VisitEnded (w.visitEnd b r) b r := by
  by_cases h : lastPosition b r
  · rw [Work.visitEnd_last h]
    refine ⟨?_, ?_, ?_, rfl, rfl, rfl, rfl⟩
    · rw [if_pos h]
      rfl
    · rw [tableAfterVisit, if_pos h, ← decayTable_eq]
      rfl
    · rw [if_pos h]
      rfl
  · rw [Work.visitEnd_goesOn h]
    refine ⟨?_, ?_, ?_, rfl, rfl, rfl, rfl⟩
    · rw [if_neg h]
    · rw [tableAfterVisit, if_neg h]
    · rw [if_neg h, List.append_nil]

theorem Work.rowEnd_notOwed {w : Work} (c : ScrubRow) (howed : w.pool.scrub.owed = false) :
    w.rowEnd c = (w.onPool fun p => p.setScrub { p.scrub with cur := none }).visitEnd c.bank c.row := by
  have h := (Work.visitEnd_leaves (w.onPool fun p => p.setScrub { p.scrub with cur := none }) c.bank c.row).scrub
  rw [Work.rowEnd]
  refine if_neg fun hyes => ?_
  rw [h] at hyes
  exact absurd (howed.symm.trans hyes) (by nofun)

/-- An owed visit is made at the end of the row. -/
theorem Work.rowEnd_owed {w : Work} (c : ScrubRow) (howed : w.pool.scrub.owed = true) :
    w.rowEnd c = (((w.onPool fun p => p.setScrub { p.scrub with cur := none }).visitEnd c.bank c.row).onPool fun p =>
      p.setScrub { p.scrub with owed := false }).visit := by
  have h := (Work.visitEnd_leaves (w.onPool fun p => p.setScrub { p.scrub with cur := none }) c.bank c.row).scrub
  rw [Work.rowEnd]
  refine if_pos ?_
  rw [h]
  exact howed

/-! ## The result of a CHECK (R100) -/

/-- The event of a CHECK that met UNCORRECTABLE. -/
def taintEvents (c : ScrubRow) (outcome : ReadOutcome) : List Event :=
  if outcome = .uncorrectable then [.taintFound c.bank c.row (Fin.ofNat 32 c.next)] else []

/-- The CHECK ends its row. -/
def PoolSide.rowStops (p : PoolSide) (c : ScrubRow) : Prop :=
  c.next = 31 ∨ p.control.state = .formatting ∨ p.skips c.bank c.row

section
variable {w : Work} {c : ScrubRow} (hcur : w.pool.scrub.cur = some c) (hnext : c.next < 32) {result : OpResult}
  (hresult : result ≠ .channelFailed) (outcome : ReadOutcome)
include hcur hnext hresult

omit hnext in
theorem Work.scrubResult_eq : w.scrubResult result (reportOf outcome == some .uncorrectable) =
    let w1 : Work := { w with raised := w.raised ++ taintEvents c outcome }
    if 32 ≤ c.next + 1 ∨ w.pool.control.state = .formatting ∨ w.pool.passesOver c.bank c.row = true then w1.rowEnd c
    else w1.onPool fun p => (p.setScrub { p.scrub with cur := some { c with next := c.next + 1 } }).arrive
      (scrubOp c.bank c.row (Fin.ofNat 32 (c.next + 1))) := by
  have hfound : (if (reportOf outcome == some .uncorrectable) = true then
      w.raise (.taintFound c.bank c.row (Fin.ofNat 32 c.next)) else w) =
        { w with raised := w.raised ++ taintEvents c outcome } := by
    cases outcome <;> simp [reportOf, taintEvents, Work.raise]
  rw [Work.scrubResult, hcur]
  dsimp only
  rw [hfound]
  refine if_congr ?_ rfl rfl
  rw [or_iff_right hresult, or_left_comm]

theorem Work.scrubResult_goesOn (hgoes : ¬w.pool.rowStops c) :
    w.scrubResult result (reportOf outcome == some .uncorrectable) =
      ({ w with raised := w.raised ++ taintEvents c outcome } : Work).onPool fun p =>
        (p.setScrub { p.scrub with cur := some { c with next := c.next + 1 } }).arrive
          (scrubOp c.bank c.row (Fin.ofNat 32 (c.next + 1))) := by
  rw [Work.scrubResult_eq hcur hresult]
  refine if_neg fun h => hgoes ?_
  rw [w.pool.passesOver_iff] at h
  exact h.imp_left fun h => by omega

omit hnext in
theorem Work.scrubResult_ends (hstops : w.pool.rowStops c) :
    w.scrubResult result (reportOf outcome == some .uncorrectable) =
      ({ w with raised := w.raised ++ taintEvents c outcome } : Work).rowEnd c := by
  rw [Work.scrubResult_eq hcur hresult]
  refine if_pos ?_
  rw [w.pool.passesOver_iff]
  exact hstops.imp_left fun h => by omega

end

/-! ## CHECK_OPERATION of the scrubber -/

theorem readResult_ne_channelFailed (outcome : ReadOutcome) (g : Granule) : readResult outcome g ≠ .channelFailed := by
  rw [readResult]
  split
  · nofun
  · split <;> nofun

/-- Pool side `q` differs from `p` in the store and in bank `b`, which has nothing in progress. -/
structure PoolSide.FreesBank (p q : PoolSide) (b : BankNo) : Prop where
  scrub : q.scrub = p.scrub
  health : q.health = p.health
  migration : q.migration = p.migration
  channels : q.channels = p.channels
  control : q.control = p.control
  bank : ∀ i, i ≠ b → q.bank i = p.bank i
  cur : (q.bank b).cur = none

theorem PoolSide.freesBank_afterOp {p : PoolSide} {b : BankNo} (hwaiting : (p.bank b).waiting = []) (r : RowNo) (f : Effect) :
    p.FreesBank (p.afterOp b r f) b := by
  obtain ⟨hcontrol, hchannels, -, -, hmigration, hhealth, hscrub, hbank⟩ := p.keptBut_afterOp b r f
  refine ⟨hscrub, hhealth, hmigration, hchannels, hcontrol, hbank, ?_⟩
  have hcleared : ((p.clearCur b).bank b).waiting = [] := by
    rw [PoolSide.clearCur, PoolSide.bank_setBank_self]
    exact hwaiting
  rw [PoolSide.afterOp_bank, PoolSide.takeNext_nil hcleared, PoolSide.bank_setBank_self, PoolSide.clearCur,
    PoolSide.bank_setBank_self]
  split <;> rfl

/-- The end of a scrub CHECK: the scrubber receives its result once the bank is free. -/
theorem exec_scrubCheck {s : State} {b : BankNo} {ip : InProgress} {r : RowNo} {g : GranNo} {outcome source : ReadOutcome}
    (hcur : (s.pool.bank b).cur = some ip) (hwaiting : (s.pool.bank b).waiting = []) (hop : ip.op = scrubOp b r g)
    (hhome : ip.targetKey? = none) (hnone : s.host.tracker.noneHeldFor b) (hquiet : s.host.quiescent) :
    ∃ p result, s.pool.FreesBank p b ∧ result ≠ .channelFailed
      ∧ ∀ w, (Work.start p).scrubResult result (reportOf outcome == some .uncorrectable) = w → w.ends = [] →
        ∃ t, exec (.checkOperation b outcome source) s = .next t ∧ t.pool = w.pool ∧ t.host = s.host.raiseAll w.raised := by
  let k := ip.sourceKey
  let f := s.pool.readsEffect ip outcome source
  obtain ⟨hresult, -, hreport, htarget⟩ := readEffect_handed k (s.pool.granule k 0) outcome
  have hread := s.pool.readingEffect_home hhome outcome source fun k _ g o => readEffect k g o
  have hf : f.result = readResult outcome (s.pool.granule k 0) ∧ f.report = reportOf outcome ∧ f.targetFailed = false := by
    change (s.pool.readsEffect _ _ _).result = _ ∧ (s.pool.readsEffect _ _ _).report = _ ∧ (s.pool.readsEffect _ _ _).targetFailed = _
    rw [PoolSide.readsEffect, hread]
    exact ⟨hresult, hreport, htarget⟩
  obtain ⟨fresult, freport, ftarget⟩ := hf
  have hexec := exec_reads (s := s) (source := source) (outcome := outcome) hcur (.inr ⟨rfl, by rw [hop]; rfl⟩)
  have hwork : (Work.start s.pool).endOp b ip f =
      (Work.start (s.pool.afterOp b ip.op.row f)).scrubResult f.result (f.report == some .uncorrectable) := by
    rw [Work.endOp, Work.handBack, ftarget]
    dsimp only
    rw [hop]
    rfl
  refine ⟨s.pool.afterOp b ip.op.row f, f.result, PoolSide.freesBank_afterOp hwaiting _ _, ?_, fun w hw hends => ?_⟩
  · rw [fresult]
    exact readResult_ne_channelFailed _ _
  · rw [hwork, freport, hw, State.deliver_quiescent (f := (· == b)) hquiet
      (fun x hx o ho => beq_false_of_ne (hnone x hx o ho)) hends] at hexec
    exact ⟨_, hexec, rfl, rfl⟩

end Sys2Proof.Machine

open Sys2Proof Sys2Proof.Machine

/-- Settles O50. -/
theorem scrubCheckEnds : Obligations.ScrubCheckEnds := by
  intro s b ip c outcome source hcur hwaiting hop hhome hscrub hbank hnext hnone hquiet
  subst hbank
  intro p skips stop last found pass table told
  obtain ⟨q, result, hfrees, hresult, hexec⟩ :=
    exec_scrubCheck (source := source) (outcome := outcome) hcur hwaiting hop hhome hnone hquiet
  have hqcur : (Work.start q).pool.scrub.cur = some c := (congrArg Scrub.cur hfrees.scrub).trans hscrub
  have hskips : ∀ i r, q.skips i r ↔ skips i r := fun i r => by
    rw [PoolSide.skips, hfrees.channels, hfrees.migration]
  have hstops : q.rowStops c ↔ stop := by
    rw [PoolSide.rowStops, hfrees.control, hskips]
  have hfound : s.host.raiseAll (taintEvents c outcome) = found := by
    change s.host.raiseAll (if _ then _ else _) = if _ then _ else _
    split <;> rfl
  let w1 : Work := { Work.start q with raised := (Work.start q).raised ++ taintEvents c outcome }
  obtain ⟨v, hv⟩ : ∃ v, (w1.onPool fun p => p.setScrub { p.scrub with cur := none }).visitEnd c.bank c.row = v := ⟨_, rfl⟩
  have hended : (w1.onPool fun p => p.setScrub { p.scrub with cur := none }).VisitEnded v c.bank c.row :=
    hv ▸ Work.visitEnd_leaves _ c.bank c.row
  have htold : s.host.raiseAll v.raised = told := by
    rw [hended.raised]
    change s.host.raiseAll (taintEvents c outcome ++ if last then [.scrubPassDone (q.scrub.pass + 1)] else []) =
      if last then found.raise (.scrubPassDone (if last then p.pass + 1 else p.pass)) else found
    by_cases hlast : last
    · rw [if_pos hlast, if_pos hlast, if_pos hlast, HostSide.raiseAll, List.foldl_append, hfrees.scrub, ← hfound]
      rfl
    · rw [if_neg hlast, if_neg hlast, List.append_nil, hfound]
  have hvscrub : v.pool.scrub = { p with cur := none, pass := pass } := by
    rw [hended.scrub]
    change ({ q.scrub with cur := none, pass := if last then q.scrub.pass + 1 else q.scrub.pass } : Scrub) = _
    rw [hfrees.scrub]
  have hvhealth : v.pool.health = { s.pool.health with table := table } := by
    rw [hended.health]
    change ({ q.health with table := tableAfterVisit last q.health.table } : Health) = _
    rw [hfrees.health]
    rfl
  have hvbank : ∀ i, v.pool.bank i = q.bank i := fun i => congrArg (fun v : Vector Bank 256 => v[i]) hended.banks
  refine ⟨fun hgoes => ?goesOn, fun hstop howed => ?rowEnds, fun hstop howed => ?owedVisit⟩
  case goesOn =>
    obtain ⟨t, hnextState, hpool, hhost⟩ := hexec _
      (Work.scrubResult_goesOn (w := Work.start q) hqcur hnext hresult outcome (mt hstops.mp hgoes)) rfl
    have harrives : t.pool = _ := hpool.trans (q.arrive_check { q.scrub with cur := some { c with next := c.next + 1 } } c.bank
      c.row (Fin.ofNat 32 (c.next + 1)))
    rw [if_pos hfrees.cur] at harrives
    refine ⟨t, hnextState, ?_, ⟨q.takeOp c.bank (scrubOp c.bank c.row (Fin.ofNat 32 (c.next + 1))), ?_, rfl⟩, fun i hi => ?_, hhost.trans hfound, ?_⟩
    · rw [harrives]
      change ({ q.scrub with cur := some { c with next := c.next + 1 } } : Scrub) = _
      rw [hfrees.scrub]
    · rw [harrives, PoolSide.bank_setBank_self]
    · rw [harrives, PoolSide.bank_setBank_of_ne _ hi.symm]
      exact hfrees.bank i hi
    · rw [harrives]
      exact hfrees.health
  case rowEnds =>
    have hw := (Work.scrubResult_ends (w := Work.start q) hqcur hresult outcome (hstops.mpr hstop)).trans
      ((Work.rowEnd_notOwed c ((congrArg Scrub.owed hfrees.scrub).trans howed)).trans hv)
    obtain ⟨t, hnextState, hpool, hhost⟩ := hexec v hw hended.ends
    rw [← hpool] at hvscrub hvhealth hvbank
    exact ⟨t, hnextState, hvscrub, (congrArg Bank.cur (hvbank c.bank)).trans hfrees.cur,
      fun i hi => (hvbank i).trans (hfrees.bank i hi), hhost.trans htold, hvhealth⟩
  case owedVisit =>
    obtain ⟨u, hu⟩ : ∃ u, (v.onPool fun p => p.setScrub { p.scrub with owed := false }) = u := ⟨_, rfl⟩
    have hw := (Work.scrubResult_ends (w := Work.start q) hqcur hresult outcome (hstops.mpr hstop)).trans
      (Work.rowEnd_owed c ((congrArg Scrub.owed hfrees.scrub).trans howed))
    rw [hv, hu] at hw
    have huscrub : u.pool.scrub = { p with cur := none, pass := pass, owed := false } := by
      rw [← hu]
      change ({ v.pool.scrub with owed := false } : Scrub) = _
      rw [hvscrub]
    have huhealth : u.pool.health = { s.pool.health with table := table } := by rw [← hu]; exact hvhealth
    have hubank : ∀ i, u.pool.bank i = q.bank i := fun i => by rw [← hu]; exact hvbank i
    have huraised : s.host.raiseAll u.raised = told := by rw [← hu]; exact htold
    have huends : u.ends = [] := by rw [← hu]; exact hended.ends
    have huskips : u.pool.skips u.pool.scrub.bank u.pool.scrub.row ↔ skips p.bank p.row := by
      rw [huscrub, ← hskips, ← hu]
      change v.pool.skips p.bank p.row ↔ q.skips p.bank p.row
      rw [PoolSide.skips, hended.channels, hended.migration]
      rfl
    obtain ⟨hbankNext, hrowNext⟩ := u.pool.scrub.advance_position
    obtain ⟨hubankp, hurowp, hinterval, hrunning, hnotOwed, hpass, hidleNow⟩ : u.pool.scrub.bank = p.bank
        ∧ u.pool.scrub.row = p.row ∧ u.pool.scrub.interval = p.interval ∧ u.pool.scrub.running = p.running
        ∧ u.pool.scrub.owed = false ∧ u.pool.scrub.pass = pass ∧ u.pool.scrub.cur = none := by
      rw [huscrub]
      exact ⟨rfl, rfl, rfl, rfl, rfl, rfl, rfl⟩
    rw [hubankp] at hbankNext
    rw [hubankp, hurowp] at hrowNext
    by_cases hskip : skips p.bank p.row
    · rw [Work.visit_skips (huskips.mpr hskip)] at hw
      have hpassed := Work.visitEnd_leaves (u.onPool fun p => p.setScrub p.scrub.advance) u.pool.scrub.bank u.pool.scrub.row
      obtain ⟨t, hnextState, hpool, hhost⟩ := hexec _ hw (hpassed.ends.trans huends)
      have htscrub := (congrArg PoolSide.scrub hpool).trans hpassed.scrub
      have hthealth := (congrArg PoolSide.health hpool).trans hpassed.health
      have htraised := congrArg s.host.raiseAll hpassed.raised
      change t.pool.scrub = { u.pool.scrub.advance with
        pass := if lastPosition u.pool.scrub.bank u.pool.scrub.row then u.pool.scrub.pass + 1 else u.pool.scrub.pass } at htscrub
      change t.pool.health = { u.pool.health with
        table := tableAfterVisit (lastPosition u.pool.scrub.bank u.pool.scrub.row) u.pool.health.table } at hthealth
      refine ⟨t, hnextState, ?_, ?_, ?_, ?_, ?_, fun _ hnotLast => ⟨?_, ?_, ?_, ?_⟩, fun h => absurd hskip h⟩
      · rw [htscrub]
        exact hbankNext
      · rw [htscrub]
        exact hrowNext
      · rw [htscrub]
        exact hinterval
      · rw [htscrub]
        exact hrunning
      · rw [htscrub]
        exact hnotOwed
      · rw [htscrub]
        exact hidleNow
      · rw [htscrub]
        refine (if_neg ?_).trans hpass
        rw [huscrub]
        exact hnotLast
      · rw [hhost, htraised, if_neg (by rw [huscrub]; exact hnotLast), List.append_nil]
        exact huraised
      · rw [hthealth, tableAfterVisit, if_neg (by rw [huscrub]; exact hnotLast)]
        exact huhealth
    · rw [Work.visit_checks (mt huskips.mp hskip)] at hw
      obtain ⟨t, hnextState, hpool, hhost⟩ := hexec _ hw huends
      have harrives : t.pool = _ := hpool.trans (u.pool.arrive_check { u.pool.scrub.advance with
        cur := some { bank := u.pool.scrub.bank, row := u.pool.scrub.row, next := 0 } } u.pool.scrub.bank u.pool.scrub.row 0)
      have htscrub : t.pool.scrub = { u.pool.scrub.advance with cur := some { bank := p.bank, row := p.row, next := 0 } } := by
        rw [harrives, hubankp, hurowp]
        rfl
      have htbank : ∀ i, i ≠ p.bank → t.pool.bank i = q.bank i := fun i hi => by
        rw [harrives, hubankp, PoolSide.bank_setBank_of_ne _ hi.symm]
        exact hubank i
      have htbankp : t.pool.bank p.bank = if (q.bank p.bank).cur = none then { q.bank p.bank with
            state := .working, openRow := some p.row, retry := 0
            cur := some (u.pool.takeOp p.bank (scrubOp p.bank p.row 0)) }
          else { q.bank p.bank with waiting := (q.bank p.bank).waiting ++ [scrubOp p.bank p.row 0] } := by
        rw [harrives, hubankp, hurowp, PoolSide.bank_setBank_self, hubank]
      refine ⟨t, hnextState, ?_, ?_, ?_, ?_, ?_, fun h => absurd h hskip, fun _ => ⟨?_, ?_, hhost.trans huraised, ?_,
        fun hidle => ⟨u.pool.takeOp p.bank (scrubOp p.bank p.row 0), ?_, rfl⟩, fun hother hbusy => ?_, fun i hi hip => ?_⟩⟩
      · rw [htscrub]
        exact hbankNext
      · rw [htscrub]
        exact hrowNext
      · rw [htscrub]
        exact hinterval
      · rw [htscrub]
        exact hrunning
      · rw [htscrub]
        exact hnotOwed
      · rw [htscrub]
      · rw [htscrub]
        exact hpass
      · rw [harrives]
        exact huhealth
      · have hqidle : (q.bank p.bank).cur = none := by
          by_cases hb : p.bank = c.bank
          · rw [hb]
            exact hfrees.cur
          · rw [hfrees.bank p.bank hb]
            exact hidle.resolve_left hb
        rw [htbankp, if_pos hqidle]
      · rw [htbankp, hfrees.bank p.bank hother, if_neg hbusy]
      · rw [htbank i hip]
        exact hfrees.bank i hi

end

section
/-! PROOF. The pool format: its checks, its beginning, its turns and the ends of its writes. -/

namespace Sys2Proof.Machine

/-! ## The checks (R9) -/

theorem Stride.ofBytes?_eq_some {n : Nat} {st : Stride} (h : Stride.ofBytes? n = some st) : st.bytes = n := by
  rw [Stride.ofBytes?] at h
  split at h
  · rw [← Option.some.inj h, ‹n = 256›]; rfl
  · split at h
    · rw [← Option.some.inj h, ‹n = 512›]; rfl
    · split at h
      · rw [← Option.some.inj h, ‹n = 1024›]; rfl
      · split at h
        · rw [← Option.some.inj h, ‹n = 2048›]; rfl
        · nomatch h

theorem Stride.ofBytes?_eq_none_iff (n : Nat) : Stride.ofBytes? n = none ↔ n ∉ [256, 512, 1024, 2048] := by
  rw [Stride.ofBytes?]
  by_cases h1 : n = 256
  · simp [h1]
  · by_cases h2 : n = 512
    · simp [h2]
    · by_cases h3 : n = 1024
      · simp [h3]
      · by_cases h4 : n = 2048
        · simp [h4]
        · simp [h1, h2, h3, h4]

theorem State.quiet_iff (s : State) : s.quiet = false ↔ s.host.tracker.slots ≠ [] ∨ s.host.tracker.opsOut ≠ 0
    ∨ ∃ i : Fin 4, s.pool.migration.slots[i] ≠ none := by
  have hslots : s.pool.migration.slots.toList.all (·.isNone) = false ↔ ∃ i : Fin 4, s.pool.migration.slots[i] ≠ none := by
    rw [← Bool.not_eq_true, List.all_eq_true]
    constructor
    · intro h
      by_contra hnone
      refine h fun x hx => ?_
      obtain ⟨i, hi, rfl⟩ := List.getElem_of_mem hx
      rw [Vector.length_toList] at hi
      rw [Vector.getElem_toList, Option.isNone_iff_eq_none]
      by_contra hne
      exact hnone ⟨⟨i, hi⟩, hne⟩
    · rintro ⟨i, hi⟩ h
      exact hi (Option.isNone_iff_eq_none.mp (h _ (by simp)))
  rw [State.quiet, Bool.and_eq_false_iff, Bool.and_eq_false_iff, hslots, or_assoc, List.isEmpty_eq_false_iff, beq_eq_false_iff_ne]

theorem exec_poolFormat {s : State} {id : BitVec 16} {stride : Nat}
    (hconfig : s.host.config = .executing id (.poolFormat stride) none) : exec .poolFormat s =
      match s.formatStride stride with
      | .error st => .next (s.setHost (s.host.completeCommand id st 0))
      | .ok st => .next ((s.deliverEvents ((Work.start s.pool).beginFormat st)).setHost
          ((s.deliverEvents ((Work.start s.pool).beginFormat st)).host.completeCommand id .ok 0)) := by
  change execPoolFormat s = _
  cases hstride : s.formatStride stride <;> simp only [execPoolFormat, hconfig, hstride]

/-! ## The cursor (R10, R14) -/

theorem FormatCursor.allDone_iff (c : FormatCursor) : c.allDone = true ↔ ∀ b : BankNo, c.banks[b].done = true := by
  rw [FormatCursor.allDone, List.all_eq_true]
  constructor
  · exact fun h b => h _ (by simp)
  · intro h x hx
    obtain ⟨i, hi, rfl⟩ := List.getElem_of_mem hx
    rw [Vector.length_toList] at hi
    exact h ⟨i, hi⟩

/-- The cursor of a format that begins. -/
def PoolSide.firstCursor (p : PoolSide) : FormatCursor :=
  { banks := Vector.ofFn fun b => FormatBank.start (p.bankFailed b), turn := 0 }

theorem PoolSide.firstCursor_bank (p : PoolSide) (b : BankNo) :
    p.firstCursor.banks[b] = FormatBank.start (p.bankFailed b) := by simp [PoolSide.firstCursor]

/-- The pool side with a format begun. -/
def PoolSide.formatting (p : PoolSide) (st : Stride) (c : FormatCursor) : PoolSide :=
  (p.setControl { state := .formatting, stride := st, cursor := some c }).setScrub
    { p.scrub with running := false, owed := false }

theorem Work.beginFormat_eq (w : Work) (st : Stride) : w.beginFormat st =
    (w.onPool fun p => p.formatting st p.firstCursor).formatCheck := rfl

theorem Work.formatCheck_goesOn {w : Work} {c : FormatCursor} (hcursor : w.pool.control.cursor = some c) {b : BankNo}
    (hleft : c.banks[b].done = false) : w.formatCheck = w := by
  rw [Work.formatCheck, hcursor]
  exact if_neg fun h => absurd (hleft.symm.trans ((c.allDone_iff.mp h) b)) (by nofun)

theorem Work.formatCheck_ends {w : Work} {c : FormatCursor} (hcursor : w.pool.control.cursor = some c)
    (hdone : ∀ b : BankNo, c.banks[b].done = true) : w.formatCheck = w.formatEnd := by
  rw [Work.formatCheck, hcursor]
  exact if_pos (c.allDone_iff.mpr hdone)

end Sys2Proof.Machine

open Sys2Proof Sys2Proof.Machine

/-- Settles O51. -/
theorem poolFormatBegins : Obligations.PoolFormatBegins := by
  intro s id stride hconfig bad wrong failed
  have hexec := exec_poolFormat hconfig
  have hwrong : (s.pool.control.state = .formatting ∨ s.quiet = false) ↔ wrong := by rw [s.quiet_iff]
  have hfailed : ∀ b, s.pool.bankFailed b = true ↔ failed b := s.pool.bankFailed_iff
  -- A stride of the four that is not refused is taken.
  have htakes : ¬bad → ¬wrong → ∃ st : Stride, st.bytes = stride ∧ exec .poolFormat s =
      .next ((s.deliverEvents ((Work.start s.pool).beginFormat st)).setHost
        ((s.deliverEvents ((Work.start s.pool).beginFormat st)).host.completeCommand id .ok 0)) := fun hgood hright => by
    cases hst : Stride.ofBytes? stride with
    | none => exact absurd ((Stride.ofBytes?_eq_none_iff stride).mp hst) hgood
    | some st =>
      refine ⟨st, Stride.ofBytes?_eq_some hst, ?_⟩
      rw [hexec, State.formatStride, hst]
      dsimp only
      rw [if_neg (mt hwrong.mp hright)]
  refine ⟨fun hbad => ?_, fun hgood hwrongNow => ?_, fun hgood hright hleft => ?_, fun hgood hright hall => ?_⟩
  · rw [hexec, State.formatStride, (Stride.ofBytes?_eq_none_iff stride).mpr hbad]
  · cases hst : Stride.ofBytes? stride with
    | none => exact absurd ((Stride.ofBytes?_eq_none_iff stride).mp hst) hgood
    | some st =>
      rw [hexec, State.formatStride, hst]
      dsimp only
      rw [if_pos (hwrong.mpr hwrongNow)]
  · obtain ⟨st, hbytes, hnext⟩ := htakes hgood hright
    have hbank := s.pool.firstCursor_bank
    have hturn : s.pool.firstCursor.turn = 0 := by rw [PoolSide.firstCursor]
    have hbegins : (Work.start s.pool).beginFormat st =
        (Work.start (s.pool.formatting st s.pool.firstCursor)).formatCheck := Work.beginFormat_eq _ st
    generalize s.pool.firstCursor = f at hbank hturn hbegins
    obtain ⟨b, hb⟩ := hleft
    have hnotDone : f.banks[b].done = false := by
      rw [hbank]
      exact Bool.eq_false_iff.mpr (mt (hfailed b).mp hb)
    rw [hbegins, Work.formatCheck_goesOn (w := Work.start (s.pool.formatting st f)) rfl hnotDone] at hnext
    exact ⟨_, f, hnext, rfl, hbytes, rfl, hturn, fun b => by rw [hbank]; exact ⟨rfl, rfl, rfl, hfailed b⟩, rfl, rfl⟩
  · obtain ⟨st, hbytes, hnext⟩ := htakes hgood hright
    have hbank := s.pool.firstCursor_bank
    have hbegins : (Work.start s.pool).beginFormat st =
        (Work.start (s.pool.formatting st s.pool.firstCursor)).formatCheck := Work.beginFormat_eq _ st
    generalize s.pool.firstCursor = f at hbank hbegins
    have hanyFailed : s.pool.anyFailed = true := s.pool.anyFailed_iff.mpr ⟨bankChannel 0, hall 0⟩
    have hends : (Work.start (s.pool.formatting st f)).formatEnd = (Work.start
        (((s.pool.formatting st f).setControl { state := .degraded, stride := st, cursor := none }).setScrub
          { (s.pool.formatting st f).scrub with running := decide (1 ≤ s.pool.scrub.interval) })).raise
        (.formatDone .degraded) := by
      have hfinal : (Work.start (s.pool.formatting st f)).pool.anyFailed = true := hanyFailed
      rw [Work.formatEnd, hfinal]
      rfl
    rw [hbegins, Work.formatCheck_ends (w := Work.start (s.pool.formatting st f)) rfl
      (fun b => by rw [hbank]; exact (hfailed b).mpr (hall b)), hends] at hnext
    exact ⟨_, hnext, rfl, hbytes, rfl, rfl⟩

end

section
/-! PROOF. Turns of the format and the ends of its writes. -/

namespace Sys2Proof.Machine

/-! ## A turn (R12) -/

/-- A bank of the cursor has a write to issue and its unit a place for it. -/
def PoolSide.writeDue (p : PoolSide) (f : FormatCursor) : Prop :=
  f.banks[f.turn].done = false ∧ f.banks[f.turn].issued < 32 ∧ (p.bank f.turn).generalCount < 30

/-- The cursor after a turn that issues a write. -/
def FormatCursor.issues (f : FormatCursor) : FormatCursor :=
  { banks := f.banks.set f.turn { f.banks[f.turn] with issued := f.banks[f.turn].issued + 1 }, turn := f.turn + 1 }

/-- The write that a turn issues. -/
def FormatCursor.write (f : FormatCursor) : BankOp :=
  formatOp f.turn f.banks[f.turn].row (Fin.ofNat 32 f.banks[f.turn].issued)

theorem Work.formatTurn_passes {w : Work} {f : FormatCursor} (hcursor : w.pool.control.cursor = some f)
    (hnotDue : ¬w.pool.writeDue f) :
    w.formatTurn = w.onPool fun p => p.setCursor (some { f with turn := f.turn + 1 }) := by
  rw [Work.formatTurn, hcursor]
  refine if_neg fun h => hnotDue ?_
  obtain ⟨hdone, hissued, hplace⟩ := h
  exact ⟨hdone, hissued, of_decide_eq_true hplace⟩

theorem Work.formatTurn_places {w : Work} {f : FormatCursor} (hcursor : w.pool.control.cursor = some f)
    (hdue : w.pool.writeDue f) (hactive : w.pool.bankFailed f.turn = false) :
    w.formatTurn = w.onPool fun p => (p.setCursor (some f.issues)).arrive f.write := by
  rw [Work.formatTurn, hcursor]
  obtain ⟨hdone, hissued, hplace⟩ := hdue
  refine (if_pos ⟨hdone, hissued, decide_eq_true hplace⟩).trans ?_
  exact if_neg (by rw [hactive]; nofun)

/-! ## The end of a write (R13) -/

theorem FormatBank.writeEnd_eq {x : FormatBank} (h : x.done = false) : x.writeEnd =
    if x.ended + 1 < 32 then { x with ended := x.ended + 1 }
    else if x.row.val < 65535 then { row := x.row + 1, issued := 0, ended := 0, done := false }
    else { x with ended := x.ended + 1, done := true } := by
  rw [FormatBank.writeEnd, h, if_neg (by nofun)]
  by_cases hmore : x.ended + 1 < 32
  · rw [if_pos hmore, if_pos hmore]
  · rw [if_neg hmore, if_neg hmore]
    have hlast : x.row = 65535 ↔ ¬x.row.val < 65535 := by
      rw [Fin.ext_iff]
      change x.row.val = 65535 ↔ _
      omega
    by_cases hrow : x.row = 65535
    · rw [if_pos hrow, if_neg (hlast.mp hrow)]
    · rw [if_neg hrow, if_pos (not_not.mp (mt hlast.mpr hrow))]

/-- The cursor after the end of a write of bank `b`. -/
def FormatCursor.ended (f : FormatCursor) (b : BankNo) : FormatCursor :=
  { f with banks := f.banks.set b f.banks[b].writeEnd }

theorem FormatCursor.ended_bank (f : FormatCursor) (b i : BankNo) :
    (f.ended b).banks[i] = if b = i then f.banks[b].writeEnd else f.banks[i] := by
  simp [FormatCursor.ended, Vector.getElem_set, Fin.ext_iff]

theorem Work.formatWriteEnd_eq {w : Work} {f : FormatCursor} (hcursor : w.pool.control.cursor = some f) (b : BankNo) :
    w.formatWriteEnd b = (w.onPool fun p => p.setCursor (some (f.ended b))).formatCheck := by
  rw [Work.formatWriteEnd, hcursor]
  rfl

/-- The end of a format write at bank `b`. -/
theorem exec_formatWrite {s : State} {b : BankNo} {ip : InProgress} {d : Block} (hcur : (s.pool.bank b).cur = some ip)
    (hissuer : ip.op.issuer = .format) (hbank : ip.op.bank = b) (hkind : ip.op.kind = .write d)
    (hnone : s.host.tracker.noneHeldFor b) (hquiet : s.host.quiescent) {w : Work}
    (hw : (Work.start (s.pool.afterOp b ip.op.row (ip.storeEffect (.valid d)))).formatWriteEnd b = w) (hends : w.ends = []) :
    ∃ t, exec (.writeOperation b) s = .next t ∧ t.pool = w.pool ∧ t.host = s.host.raiseAll w.raised := by
  have hexec := exec_stores (s := s) (c := .writeOperation b) (g := .valid d) hcur (.inl ⟨d, rfl, hkind, rfl⟩)
  have hwork : (Work.start s.pool).endOp b ip (ip.storeEffect (.valid d)) = w := by
    rw [← hw, Work.endOp, Work.handBack, hissuer]
    dsimp only
    rw [hbank]
    rfl
  rw [hwork, State.deliver_quiescent (f := (· == b)) hquiet (fun x hx o ho => beq_false_of_ne (hnone x hx o ho)) hends] at hexec
  exact ⟨_, hexec, rfl, rfl⟩

end Sys2Proof.Machine

open Sys2Proof Sys2Proof.Machine

/-- Settles O52. -/
theorem formatWrites : Obligations.FormatWrites := by
  intro s
  have hexec : ∀ w, (Work.start s.pool).formatTurn = w → exec .formatTurn s = .next (s.deliverEvents w) := fun w h => by
    rw [← h]
    rfl
  refine ⟨fun hnone => ?none, fun f hcursor => ⟨?turn, ?write⟩⟩
  case none =>
    refine (hexec (Work.start s.pool) ?_).trans rfl
    rw [Work.formatTurn, show (Work.start s.pool).pool.control.cursor = none from hnone]
  case turn =>
    intro b x k due counted op
    have hcounted : s.pool.setCursor (some f.issues) = counted := rfl
    have harrives : due → s.pool.channels[bankChannel b] = .active → exec .formatTurn s =
        .next (s.setPool (counted.arrive op)) := fun hdue hactive =>
      (hexec _ (Work.formatTurn_places (w := Work.start s.pool) hcursor hdue
        ((s.pool.bankFailed_eq_false_iff b).mpr hactive))).trans rfl
    refine ⟨fun hnotDue => ?_, fun hdue hactive hbusy => ?_, fun hdue hactive hidle => ?_⟩
    · exact (hexec _ (Work.formatTurn_passes (w := Work.start s.pool) hcursor hnotDue)).trans rfl
    · rw [harrives hdue hactive, PoolSide.arrive_bank]
      exact congrArg (fun x => Host.Outcome.next (s.setPool (counted.setBank b x))) (if_neg hbusy)
    · rw [harrives hdue hactive, PoolSide.arrive_bank, PoolSide.takeOp_eq]
      exact congrArg (fun x => Host.Outcome.next (s.setPool (counted.setBank b x))) (if_pos hidle)
  case write =>
    intro b ip hcur hissuer hbank hkind hmig hnone hquiet hdone x y
    let e := ip.storeEffect (.valid 0)
    let p := s.pool.afterOp b ip.op.row e
    obtain ⟨hcontrol, hchannels, -, hspares, -, hhealth, hscrub, -⟩ := s.pool.keptBut_afterOp b ip.op.row e
    have hpcursor : (Work.start p).pool.control.cursor = some f := (congrArg PoolControl.cursor hcontrol).trans hcursor
    have hwriteEnd := Work.formatWriteEnd_eq hpcursor b
    have hy : f.banks[b].writeEnd = y := FormatBank.writeEnd_eq hdone
    have hbanks := f.ended_bank b
    have hended : f.ended b = { f with banks := f.banks.set b y } := by rw [FormatCursor.ended, hy]
    rw [hy] at hbanks
    generalize f.ended b = g at hwriteEnd hbanks hended
    -- What the end leaves does not hang on whether the format goes on.
    have hstored : ∀ t : State, exec (.writeOperation b) s = .next t → t.pool.bank b = p.bank b →
        t.pool.health = p.health → t.pool.spares = p.spares → t.pool.control.stride = p.control.stride →
        (∀ a, t.pool.mem.read a =
            if a = granKey b ip.op.row ip.source ip.op.gran then some (.valid 0) else s.pool.mem.read a)
          ∧ t.pool.reports = s.pool.reports ∧ t.pool.health = s.pool.health ∧ t.pool.spares = s.pool.spares
          ∧ t.pool.bank b = ((s.pool.clearCur b).takeNext b).bank b
          ∧ t.pool.control.stride = s.pool.control.stride := fun t ht hb hh hs hc => by
      have hnext := exec_stores (s := s) (c := .writeOperation b) (g := .valid 0) hcur (.inl ⟨0, rfl, hkind, rfl⟩)
      obtain rfl := Host.Outcome.next.inj (ht.symm.trans hnext)
      refine ⟨fun a => ?_, ?_, hh.trans hhealth, hs.trans hspares, hb.trans (s.pool.afterOp_bank b _ _),
        hc.trans (congrArg PoolControl.stride hcontrol)⟩
      · rw [s.deliver_endOp_mem b ip, InProgress.read_storeEffect, hbank]
        refine if_congr (or_iff_left ?_) rfl rfl
        rw [InProgress.targetKey?, hmig]
        nofun
      · exact (s.deliver_endOp_reports b ip _).trans (List.append_nil _)
    have hother : ∀ i : BankNo, i ≠ b → g.banks[i] = f.banks[i] := fun i hi => by rw [hbanks, if_neg hi.symm]
    have hself : g.banks[b] = y := by rw [hbanks, if_pos rfl]
    by_cases hleft : y.done = false ∨ ∃ i : BankNo, i ≠ b ∧ f.banks[i].done = false
    · obtain ⟨i, hi⟩ : ∃ i : BankNo, g.banks[i].done = false := by
        rcases hleft with h | ⟨i, hi, h⟩
        · exact ⟨b, by rw [hself]; exact h⟩
        · exact ⟨i, by rw [hother i hi]; exact h⟩
      have hw := hwriteEnd.trans
        (Work.formatCheck_goesOn (w := (Work.start p).onPool fun p => p.setCursor (some g)) rfl hi)
      obtain ⟨t, hnext, hpool, hhost⟩ := exec_formatWrite hcur hissuer hbank hkind hnone hquiet hw rfl
      obtain ⟨hmem, hreports, hh, hs, hb, hst⟩ := hstored t hnext (by rw [hpool]; rfl) (by rw [hpool]; rfl)
        (by rw [hpool]; rfl) (by rw [hpool]; rfl)
      refine ⟨t, hnext, hmem, hreports, hh, hs, hb, hst, fun _ => ⟨hhost, ?_⟩, fun hydone hall => ?_⟩
      · rw [hpool, ← hended, ← hcontrol]
        rfl
      · rcases hleft with h | ⟨i, hi, h⟩
        · exact absurd (h.symm.trans hydone) (by nofun)
        · exact absurd (h.symm.trans (hall i hi)) (by nofun)
    · have hall : ∀ i : BankNo, g.banks[i].done = true := fun i => by
        rw [← Bool.not_eq_false]
        intro h
        by_cases hi : i = b
        · rw [hi, hself] at h
          exact hleft (.inl h)
        · rw [hother i hi] at h
          exact hleft (.inr ⟨i, hi, h⟩)
      let final : PoolState := if ∃ c : ChanNo, s.pool.channels[c] = .failed then .degraded else .online
      have hfinal : (if p.anyFailed = true then PoolState.degraded else .online) = final := by
        refine if_congr ?_ rfl rfl
        rw [p.anyFailed_iff, show p.channels = s.pool.channels from hchannels]
      have hw := hwriteEnd.trans
        (Work.formatCheck_ends (w := (Work.start p).onPool fun p => p.setCursor (some g)) rfl hall)
      obtain ⟨t, hnext, hpool, hhost⟩ := exec_formatWrite hcur hissuer hbank hkind hnone hquiet hw rfl
      obtain ⟨hmem, hreports, hh, hs, hb, hst⟩ := hstored t hnext (by rw [hpool]; rfl) (by rw [hpool]; rfl)
        (by rw [hpool]; rfl) (by rw [hpool]; rfl)
      refine ⟨t, hnext, hmem, hreports, hh, hs, hb, hst, fun h => absurd h hleft, fun _ _ => ⟨?_, ?_, ?_, ?_⟩⟩
      · rw [hpool]
        exact hfinal
      · rw [hpool]
        rfl
      · rw [hpool, ← hscrub]
        rfl
      · rw [hhost]
        exact congrArg (fun st => s.host.raise (.formatDone st)) hfinal

end

section
/-! PROOF. EVENT QUEUE SET and SET PARAMETERS (chapter 9): the checks as comparisons of numbers, the event ring that is
created or removed, and the threshold, interval and enables taken. -/

namespace Sys2Proof.Machine

/-! ## EVENT QUEUE SET (R178) -/

/-- The size 0 is accepted with any base and vector; another needs the bounds, the alignment and the window. -/
theorem HostPort.eventRingValid_iff (p : HostPort) (size base vector : Nat) : p.eventRingValid size base vector = true ↔
    size = 0 ∨ 2 ≤ size ∧ size ≤ 1024 ∧ base % 64 = 0 ∧ vector ≤ 31
      ∧ p.windowLow.toNat ≤ base ∧ base + 32 * size - 1 ≤ p.windowHigh.toNat := by
  simp only [HostPort.eventRingValid, Bool.or_eq_true, Bool.and_eq_true, decide_eq_true_iff, HostPort.inWindow_iff,
    and_assoc]

theorem exec_eventQueueSet {s : State} {id : BitVec 16} {size base vector : Nat} {intEn : Bool}
    (hconfig : s.host.config = .executing id (.eventQueueSet size base vector intEn) none) : exec .eventQueueSet s =
      if s.host.port.eventRingValid size base vector then
        .next (s.setHost ((s.host.setEventRing size base vector intEn).completeCommand id .ok 0))
      else .next (s.setHost (s.host.completeCommand id .badParameter 0)) := by
  show execEventQueueSet s = _
  rw [execEventQueueSet, hconfig]

/-- With no event pending the new ring is left as it was created. -/
theorem HostSide.setEventRing_created {h : HostSide} {size : Nat} (hsize : size ≠ 0) (hentries : h.events.entries = [])
    (base vector : Nat) (intEn : Bool) :
    h.setEventRing size base vector intEn = h.setEq (EvRing.created base size vector intEn) := by
  rw [HostSide.setEventRing, if_neg hsize, hentries]
  rfl

/-! ## SET PARAMETERS (R93, R103, R179) -/

theorem exec_setParameters {s : State} {id : BitVec 16} {interval threshold : Nat} {enables : BitVec 8}
    (hconfig : s.host.config = .executing id (.setParameters interval threshold enables) none) : exec .setParameters s =
      if interval ≤ 65535 ∧ 1 ≤ threshold ∧ threshold ≤ 15 then
        .next ((s.takeParameters interval threshold enables).setHost
          ((s.takeParameters interval threshold enables).host.completeCommand id .ok 0))
      else .next (s.setHost (s.host.completeCommand id .badParameter 0)) := by
  show execSetParameters s = _
  rw [execSetParameters, hconfig]

/-- The table at a new threshold: lowered, it makes CANDIDATE of the WATCH entries at or above it. -/
def Health.retable (h : Health) (threshold : Nat) : List HealthEntry :=
  if threshold < h.threshold then
    h.table.map fun e => if e.state = .watch ∧ threshold ≤ e.count then { e with state := .candidate } else e
  else h.table

/-- With the flags of the crossing entries already set, none is offered. -/
theorem PoolSide.setThreshold_queued {p : PoolSide} {threshold : Nat}
    (hqueued : ∀ e ∈ p.health.table, e.state = .watch → threshold ≤ e.count → e.queued = true) :
    p.setThreshold threshold = p.setHealth { table := p.health.retable threshold, threshold := threshold } := by
  have hnone : ((p.health.crossing threshold).filter fun e => !e.queued) = [] := by
    refine List.filter_eq_nil_iff.mpr fun e he hclear => ?_
    obtain ⟨hmem, hcross⟩ := List.mem_filter.mp he
    simp only [Bool.and_eq_true, beq_iff_eq, decide_eq_true_iff] at hcross
    simp [hqueued e hmem hcross.1 hcross.2] at hclear
  rw [PoolSide.setThreshold, hnone, Health.retable]
  split <;> rfl

end Sys2Proof.Machine

open Sys2Proof Sys2Proof.Machine

/-- Settles O55: each command's check is the statement's comparison; a created ring finds no event to post, and no
crossing entry is offered, its flag being set. -/
theorem eventRingAndParameters : Obligations.EventRingAndParameters := by
  intro s id
  refine ⟨fun size base vector intEn hconfig => ?eventRing, fun interval threshold enables hconfig => ?parameters⟩
  case eventRing =>
    intro ends fits
    have hvalid : s.host.port.eventRingValid size base vector = true ↔ size = 0 ∨ fits :=
      s.host.port.eventRingValid_iff size base vector
    have hexec := exec_eventQueueSet hconfig
    refine ⟨fun hsize hbad => ?refused, fun hzero => ?removed, fun hfits hentries => ?created⟩
    case refused => exact hexec.trans (if_neg fun h => (hvalid.mp h).elim hsize hbad)
    case removed =>
      rw [if_pos (hvalid.mpr (.inl hzero)), HostSide.setEventRing, if_pos hzero] at hexec
      exact hexec
    case created =>
      have hsize : size ≠ 0 := fun hzero => by have := hfits.1; omega
      rw [if_pos (hvalid.mpr (.inr hfits)), HostSide.setEventRing_created hsize hentries] at hexec
      exact hexec
  case parameters =>
    intro serving c table scrub
    have hexec := exec_setParameters hconfig
    refine ⟨fun hbad => hexec.trans (if_neg (by omega)), fun hinterval hlow hhigh hqueued => ?_⟩
    rw [if_pos ⟨hinterval, hlow, hhigh⟩, State.takeParameters, PoolSide.setThreshold_queued hqueued] at hexec
    have hserving : s.pool.control.state.serving = decide serving :=
      Bool.eq_iff_iff.mpr ((PoolState.serving_iff _).trans decide_eq_true_iff.symm)
    have hscrub : s.pool.scrub.setInterval interval s.pool.control.state.serving = scrub := by rw [hserving]; rfl
    exact hexec.trans (congrArg (fun x => Host.Outcome.next ((s.setPool ((s.pool.setHealth
      { table := s.pool.health.retable threshold, threshold := threshold }).setScrub x)).setHost
        ((s.host.setEvents { s.host.events with enables := enables }).completeCommand id .ok 0))) hscrub)
end

section
/-! PROOF. MAP READ, HEALTH READ and STATUS READ (chapters 3, 5, 9 and 12): a run of posted writes at consecutive places,
the snapshots, and the layouts of the health entry and the status block. -/

namespace Sys2Proof.Machine

/-! ## Posted writes at consecutive places (R51, R95) -/

theorem HostSide.postWrite_inside {h : HostSide} {addr : Nat} {bytes : List Byte}
    (hin : h.port.windowLow.toNat ≤ addr ∧ addr + bytes.length - 1 ≤ h.port.windowHigh.toNat) :
    h.postWrite addr bytes = (h.setOut (h.out ++ [.write addr bytes]), true) :=
  if_pos ((h.port.inWindow_iff _ _).mpr hin)

theorem HostSide.postWrite_outside {h : HostSide} {addr : Nat} {bytes : List Byte}
    (hout : ¬(h.port.windowLow.toNat ≤ addr ∧ addr + bytes.length - 1 ≤ h.port.windowHigh.toNat)) :
    h.postWrite addr bytes = (h, false) :=
  if_neg (mt (h.port.inWindow_iff _ _).mp hout)

theorem HostSide.postRun_inside {place : Nat} (hplace : 0 < place) (entries : List (List Byte))
    (hlength : ∀ e ∈ entries, e.length = place) (h : HostSide) (addr : Nat)
    (hin : entries = [] ∨ h.port.windowLow.toNat ≤ addr
      ∧ addr + place * entries.length - 1 ≤ h.port.windowHigh.toNat) :
    h.postRun addr entries = (h.setOut (h.out ++ entries.mapIdx fun i e => .write (addr + place * i) e), true) := by
  induction entries generalizing h addr with
  | nil => simp [HostSide.postRun, HostSide.setOut]
  | cons e rest ih =>
    obtain ⟨hlow, hhigh⟩ := hin.resolve_left (List.cons_ne_nil e rest)
    have he := hlength e List.mem_cons_self
    rw [List.length_cons, Nat.mul_succ] at hhigh
    have hfirst := HostSide.postWrite_inside (h := h) (addr := addr) (bytes := e) ⟨hlow, by omega⟩
    have hrest := ih (fun e he => hlength e (List.mem_cons_of_mem _ he)) (h.setOut (h.out ++ [.write addr e]))
      (addr + place) (.inr ⟨by simp only [HostSide.setOut]; omega, by simp only [HostSide.setOut]; omega⟩)
    rw [HostSide.postRun, hfirst]
    simp only [he, hrest, List.mapIdx_cons, Nat.mul_zero, Nat.add_zero, Nat.mul_succ]
    simp [HostSide.setOut, Nat.add_assoc, Nat.add_comm place]

theorem HostSide.postRun_outside {h : HostSide} {addr : Nat} {e : List Byte} (rest : List (List Byte))
    (hout : ¬(h.port.windowLow.toNat ≤ addr ∧ addr + e.length - 1 ≤ h.port.windowHigh.toNat)) :
    h.postRun addr (e :: rest) = (h, false) := by
  rw [HostSide.postRun, HostSide.postWrite_outside hout]

section
variable {h : HostSide} {snapshot : List (List Byte)} {place capacity host : Nat}

theorem HostSide.writeOut_inside (hplace : 0 < place) (hlength : ∀ e ∈ snapshot, e.length = place)
    (hin : min capacity snapshot.length = 0 ∨ h.port.windowLow.toNat ≤ host
      ∧ host + place * min capacity snapshot.length - 1 ≤ h.port.windowHigh.toNat) (id : BitVec 16) :
    h.writeOut id snapshot capacity host =
      (h.setOut (h.out ++ (snapshot.take (min capacity snapshot.length)).mapIdx fun i e =>
        .write (host + place * i) e)).completeCommand id .ok snapshot.length := by
  have hrun := HostSide.postRun_inside hplace (snapshot.take capacity)
    (fun e he => hlength e (List.mem_of_mem_take he)) h host
    (by rwa [← List.length_eq_zero_iff, List.length_take])
  rw [HostSide.writeOut, hrun, ← List.take_eq_take_min]

theorem HostSide.writeOut_outside (hlength : ∀ e ∈ snapshot, e.length = place)
    (hsome : min capacity snapshot.length ≠ 0)
    (hout : ¬(h.port.windowLow.toNat ≤ host ∧ host + place - 1 ≤ h.port.windowHigh.toNat)) (id : BitVec 16) :
    h.writeOut id snapshot capacity host = h.completeCommand id .hostAccess 0 := by
  rw [← List.length_take] at hsome
  obtain ⟨e, rest, htake⟩ := List.exists_cons_of_ne_nil (mt List.length_eq_zero_iff.mpr hsome)
  have he : e.length = place := hlength e (List.mem_of_mem_take (htake ▸ List.mem_cons_self))
  rw [HostSide.writeOut, htake, HostSide.postRun_outside rest (he.symm ▸ hout)]
end

theorem exec_mapRead {s : State} {id : BitVec 16} {capacity host : Nat}
    (hconfig : s.host.config = .executing id (.mapRead capacity host) none) :
    exec .mapRead s = .next (s.setHost (s.host.writeOut id s.pool.mapSnapshot capacity host)) := by
  show execMapRead s = _
  rw [execMapRead, hconfig]

theorem exec_healthRead {s : State} {id : BitVec 16} {capacity host : Nat}
    (hconfig : s.host.config = .executing id (.healthRead capacity host) none) : exec .healthRead s =
      .next (s.setHost (s.host.writeOut id (s.pool.health.table.map healthEntryBytes) capacity host)) := by
  show execHealthRead s = _
  rw [execHealthRead, hconfig]

/-! ## The map snapshot (R50, 12.6) -/

theorem length_mapEntryBytes (b : BankNo) (i : SpareNo) (state row : Nat) : (mapEntryBytes b i state row).length = 8 := by
  simp [mapEntryBytes]

theorem spareEntry_eq_some (b : BankNo) (i : SpareNo) (x : Spare) (e : List Byte) : spareEntry b i x = some e ↔
    (∃ r, x = .active r ∧ e = mapEntryBytes b i 1 r.val) ∨ x = .retired ∧ e = mapEntryBytes b i 2 0 := by
  cases x <;> simp [spareEntry, eq_comm]

theorem PoolSide.mem_mapSnapshot (p : PoolSide) (e : List Byte) : e ∈ p.mapSnapshot ↔ ∃ (b : BankNo) (i : SpareNo),
    (∃ r, p.spare b i = .active r ∧ e = mapEntryBytes b i 1 r.val)
      ∨ p.spare b i = .retired ∧ e = mapEntryBytes b i 2 0 := by
  simp [PoolSide.mapSnapshot, spareEntry_eq_some]

theorem PoolSide.length_of_mem_mapSnapshot {p : PoolSide} {e : List Byte} (he : e ∈ p.mapSnapshot) : e.length = 8 := by
  obtain ⟨b, i, ⟨r, _, rfl⟩ | ⟨_, rfl⟩⟩ := (p.mem_mapSnapshot e).mp he <;> exact length_mapEntryBytes ..

/-- The place of an entry in the order of the snapshot: bank, then spare index. -/
def entryKey (e : List Byte) : Nat := fieldAt e 0 2 * 32 + fieldAt e 2 1

theorem spareEntry_key {b : BankNo} {i : SpareNo} {x : Spare} {e : List Byte} (he : spareEntry b i x = some e) :
    entryKey e = b.val * 32 + i.val := by
  have hkey (state row : Nat) : entryKey (mapEntryBytes b i state row) = b.val * 32 + i.val := by
    simp [entryKey, mapEntryBytes, fieldAt_append_left, fieldAt_append_right, fieldAt_natToBytes]
    omega
  obtain ⟨r, _, rfl⟩ | ⟨_, rfl⟩ := (spareEntry_eq_some b i x e).mp he <;> exact hkey _ _

theorem PoolSide.mapSnapshot_sorted (p : PoolSide) : p.mapSnapshot.Pairwise fun d e => entryKey d < entryKey e := by
  refine List.pairwise_flatMap.mpr ⟨fun b _ => ?sameBank, ?laterBank⟩
  case sameBank =>
    refine List.pairwise_filterMap.mpr ((List.pairwise_lt_finRange 32).imp fun {i j} hij d hd e he => ?_)
    rw [spareEntry_key hd, spareEntry_key he]
    exact Nat.add_lt_add_left hij _
  case laterBank =>
    refine (List.pairwise_lt_finRange 256).imp fun {b c} hbc d hd e he => ?_
    obtain ⟨i, _, hd⟩ := List.mem_filterMap.mp hd
    obtain ⟨j, _, he⟩ := List.mem_filterMap.mp he
    rw [spareEntry_key hd, spareEntry_key he]
    omega

/-! ## The health entry (12.7) -/

theorem length_healthEntryBytes (e : HealthEntry) : (healthEntryBytes e).length = 16 := by simp [healthEntryBytes]

theorem fieldAt_healthEntryBytes (e : HealthEntry) : fieldAt (healthEntryBytes e) 0 2 = e.bank.val
    ∧ fieldAt (healthEntryBytes e) 2 2 = e.row.val ∧ fieldAt (healthEntryBytes e) 4 1 = e.count % 256
    ∧ fieldAt (healthEntryBytes e) 5 1 = e.state.code ∧ fieldAt (healthEntryBytes e) 6 1 = e.last.code
    ∧ fieldAt (healthEntryBytes e) 7 1 = bit e.queued ∧ fieldAt (healthEntryBytes e) 8 4 = e.firstPass.toNat
    ∧ fieldAt (healthEntryBytes e) 12 4 = 0 := by
  have hbank : e.bank.val % 65536 = e.bank.val := Nat.mod_eq_of_lt (by omega)
  have hrow : e.row.val % 65536 = e.row.val := Nat.mod_eq_of_lt e.row.isLt
  have hstate : e.state.code % 256 = e.state.code := by cases e.state <;> rfl
  have hlast : e.last.code % 256 = e.last.code := by cases e.last <;> rfl
  have hqueued : bit e.queued % 256 = bit e.queued := by cases e.queued <;> rfl
  have hpass : e.firstPass.toNat % 4294967296 = e.firstPass.toNat := Nat.mod_eq_of_lt e.firstPass.isLt
  simp [healthEntryBytes, fieldAt_append_left, fieldAt_append_right, fieldAt_natToBytes, hbank, hrow, hstate, hlast,
    hqueued, hpass]

end Sys2Proof.Machine
end

section
/-! PROOF. The status block (12.8): its head, the migration records at their places, and the zeros behind them. -/

namespace Sys2Proof.Machine

/-! ## Fields of runs and of zeros -/

theorem natToBytes_zero (n : Nat) : natToBytes n 0 = List.replicate n 0 := by
  induction n with
  | zero => rfl
  | succ n ih => rw [natToBytes, ih, List.replicate_succ]; rfl

theorem fieldAt_zeros (n off k : Nat) : fieldAt (natToBytes n 0) off k = 0 := by
  rw [fieldAt, natToBytes_zero, List.drop_replicate, List.take_replicate, ← natToBytes_zero, bytesToNat_natToBytes,
    Nat.zero_mod]

theorem length_flatMap_places {α : Type} {f : α → List Byte} {place : Nat} (hf : ∀ x, (f x).length = place)
    (xs : List α) : (xs.flatMap f).length = place * xs.length := by
  induction xs with
  | nil => rfl
  | cons x xs ih => rw [List.flatMap_cons, List.length_append, ih, hf, List.length_cons, Nat.mul_succ, Nat.add_comm]

/-- A field of the i-th of records that stand one after another. -/
theorem fieldAt_flatMap_places {α : Type} {f : α → List Byte} {place : Nat} (hf : ∀ x, (f x).length = place)
    {xs : List α} {i : Nat} {x : α} (hx : xs[i]? = some x) {off n : Nat} (hoff : off + n ≤ place) (ys : List Byte) :
    fieldAt (xs.flatMap f ++ ys) (place * i + off) n = fieldAt (f x) off n := by
  induction xs generalizing i with
  | nil => simp at hx
  | cons y xs ih =>
    rw [List.flatMap_cons, List.append_assoc]
    cases i with
    | zero =>
      obtain rfl : y = x := by simpa using hx
      rw [Nat.mul_zero, Nat.zero_add, fieldAt_append_left (by rw [hf]; exact hoff)]
    | succ i =>
      rw [fieldAt_append_right (by rw [hf, Nat.mul_succ]; omega), hf, ← ih (by simpa using hx)]
      congr 1
      rw [Nat.mul_succ]
      omega

/-! ## Numbers of the block -/

theorem sum_powers_eq_ofBits {n : Nat} (f : Fin n → Bool) :
    ((List.finRange n).map fun i => if f i then 2 ^ i.val else 0).sum = Nat.ofBits f := by
  induction n with
  | zero => rfl
  | succ n ih =>
    rw [Nat.ofBits_succ, ← ih (f ∘ Fin.succ), List.finRange_succ, List.map_cons, List.sum_cons, List.map_map,
      ← List.sum_map_mul_left, Nat.add_comm]
    congr 1
    · refine congrArg List.sum (List.map_congr_left fun i _ => ?_)
      simp only [Function.comp_apply, Fin.val_succ]
      split <;> simp [Nat.pow_succ, Nat.mul_comm]
    · cases f 0 <;> rfl

theorem PoolSide.channelBits_eq (p : PoolSide) :
    p.channelBits = Nat.ofBits fun c : ChanNo => decide (p.channels[c] = .failed) := by
  rw [← sum_powers_eq_ofBits, PoolSide.channelBits]
  simp only [decide_eq_true_iff]

theorem PoolSide.channelBits_lt (p : PoolSide) : p.channelBits < 65536 := by
  rw [p.channelBits_eq]
  exact Nat.ofBits_lt_two_pow _

theorem PoolSide.testBit_channelBits (p : PoolSide) (c : ChanNo) :
    p.channelBits.testBit c.val = true ↔ p.channels[c] = .failed := by
  rw [p.channelBits_eq, Nat.testBit_ofBits_lt _ _ c.isLt, decide_eq_true_iff]

theorem toList_eq_map_finRange {α : Type} {n : Nat} (v : Vector α n) :
    v.toList = (List.finRange n).map fun i => v[i] :=
  List.ext_getElem (by simp) fun i hi _ => by simp

theorem Migration.occupied_eq (m : Migration) :
    m.slots.toList.filterMap id = (List.finRange 4).filterMap fun i => m.slots[i] := by
  rw [toList_eq_map_finRange, List.filterMap_map]
  rfl

theorem PoolSide.freeSpareCount_eq (p : PoolSide) : p.freeSpareCount = ((List.finRange 256).map fun b : BankNo =>
    if p.channels[bankChannel b] = .failed then 0
    else (List.finRange 32).countP fun i => p.spare b i == .free).sum := by
  refine congrArg List.sum (List.map_congr_left fun b _ => ?_)
  rw [toList_eq_map_finRange, List.countP_map]
  simp only [PoolSide.bankFailed, beq_iff_eq]
  rfl

theorem PoolSide.freeSpareCount_lt (p : PoolSide) : p.freeSpareCount < 65536 := by
  have hbank : ∀ x ∈ (List.finRange 256).map (fun b : BankNo =>
      if p.bankFailed b then 0 else p.spares[b].toList.countP fun x => x == .free), x ≤ 32 := by
    intro x hx
    obtain ⟨b, _, rfl⟩ := List.mem_map.mp hx
    split
    · exact Nat.zero_le _
    · exact List.countP_le_length.trans (by simp)
  have hsum := List.sum_le_card_nsmul _ _ hbank
  simp only [List.length_map, List.length_finRange, smul_eq_mul] at hsum
  calc p.freeSpareCount ≤ 256 * 32 := hsum
    _ < 65536 := by norm_num

/-! ## The block -/

/-- The occupied migration slots, whose records the block holds. -/
def Migration.occupied (m : Migration) : List MigSlot := (List.finRange 4).filterMap fun i => m.slots[i]

theorem Migration.length_occupied_le (m : Migration) : m.occupied.length ≤ 4 :=
  (List.length_filterMap_le _ _).trans_eq (List.length_finRange)

/-- The first 24 bytes of the block. -/
def statusHead (s : State) : List Byte :=
  natToBytes 1 s.pool.control.state.code ++ natToBytes 1 s.pool.migration.occupied.length
    ++ natToBytes 2 s.pool.channelBits ++ natToBytes 4 s.pool.control.stride.bytes ++ natToBytes 2 s.pool.scrub.row.val
    ++ natToBytes 1 s.pool.scrub.bank.val ++ natToBytes 1 0 ++ natToBytes 4 s.pool.scrub.pass.toNat
    ++ natToBytes 1 s.pool.migration.queue.length ++ natToBytes 1 s.host.events.entries.length
    ++ natToBytes 1 (bit s.host.events.overflow) ++ natToBytes 1 0 ++ natToBytes 2 s.pool.health.table.length
    ++ natToBytes 2 s.pool.freeSpareCount

theorem length_statusHead (s : State) : (statusHead s).length = 24 := by simp [statusHead]

theorem statusBlock_eq (s : State) : statusBlock s = statusHead s ++ (s.pool.migration.occupied.flatMap MigSlot.statusBytes
    ++ (natToBytes (8 * (4 - s.pool.migration.occupied.length)) 0 ++ natToBytes 8 0)) := by
  rw [statusBlock, s.pool.migration.occupied_eq]
  simp only [← List.append_assoc]
  rfl

theorem MigSlot.length_statusBytes (m : MigSlot) : m.statusBytes.length = 8 := by simp [MigSlot.statusBytes]

theorem length_statusBlock (s : State) : (statusBlock s).length = 64 := by
  have hle := s.pool.migration.length_occupied_le
  rw [statusBlock_eq, List.length_append, length_statusHead, List.length_append,
    length_flatMap_places MigSlot.length_statusBytes, List.length_append, length_natToBytes, length_natToBytes]
  omega

theorem fieldAt_statusBlock_head (s : State) {off n : Nat} (h : off + n ≤ 24) :
    fieldAt (statusBlock s) off n = fieldAt (statusHead s) off n := by
  rw [statusBlock_eq, fieldAt_append_left (by rwa [length_statusHead])]

theorem fieldAt_statusBlock_record {s : State} {i : Nat} {m : MigSlot} (hm : s.pool.migration.occupied[i]? = some m)
    {place off n : Nat} (hplace : place = 24 + 8 * i + off) (hoff : off + n ≤ 8) :
    fieldAt (statusBlock s) place n = fieldAt m.statusBytes off n := by
  rw [hplace, statusBlock_eq, fieldAt_append_right (by rw [length_statusHead]; omega), length_statusHead, Nat.add_assoc,
    Nat.add_sub_cancel_left, fieldAt_flatMap_places MigSlot.length_statusBytes hm hoff]

theorem fieldAt_statusBlock_zeros (s : State) {off : Nat} (n : Nat)
    (hoff : 24 + 8 * s.pool.migration.occupied.length ≤ off) : fieldAt (statusBlock s) off n = 0 := by
  have hzeros : natToBytes (8 * (4 - s.pool.migration.occupied.length)) 0 ++ natToBytes 8 0
      = natToBytes (8 * (4 - s.pool.migration.occupied.length) + 8) 0 := by
    rw [natToBytes_zero, natToBytes_zero, natToBytes_zero, List.replicate_append_replicate]
  rw [statusBlock_eq, fieldAt_append_right (by rw [length_statusHead]; omega), fieldAt_append_right (by
    rw [length_statusHead, length_flatMap_places MigSlot.length_statusBytes]; omega), hzeros, fieldAt_zeros]

theorem fieldAt_statusHead (s : State) : fieldAt (statusHead s) 0 1 = s.pool.control.state.code
    ∧ fieldAt (statusHead s) 1 1 = s.pool.migration.occupied.length ∧ fieldAt (statusHead s) 2 2 = s.pool.channelBits
    ∧ fieldAt (statusHead s) 4 4 = s.pool.control.stride.bytes ∧ fieldAt (statusHead s) 8 2 = s.pool.scrub.row.val
    ∧ fieldAt (statusHead s) 10 1 = s.pool.scrub.bank.val ∧ fieldAt (statusHead s) 11 1 = 0
    ∧ fieldAt (statusHead s) 12 4 = s.pool.scrub.pass.toNat
    ∧ fieldAt (statusHead s) 16 1 = s.pool.migration.queue.length % 256
    ∧ fieldAt (statusHead s) 17 1 = s.host.events.entries.length % 256
    ∧ fieldAt (statusHead s) 18 1 = bit s.host.events.overflow ∧ fieldAt (statusHead s) 19 1 = 0
    ∧ fieldAt (statusHead s) 20 2 = s.pool.health.table.length % 65536
    ∧ fieldAt (statusHead s) 22 2 = s.pool.freeSpareCount := by
  have hstate : s.pool.control.state.code % 256 = s.pool.control.state.code := by cases s.pool.control.state <;> rfl
  have hoccupied : s.pool.migration.occupied.length % 256 = s.pool.migration.occupied.length :=
    Nat.mod_eq_of_lt (Nat.lt_of_le_of_lt s.pool.migration.length_occupied_le (by decide))
  have hchannels : s.pool.channelBits % 65536 = s.pool.channelBits := Nat.mod_eq_of_lt s.pool.channelBits_lt
  have hstride : s.pool.control.stride.bytes % 4294967296 = s.pool.control.stride.bytes := by
    cases s.pool.control.stride <;> rfl
  have hrow : s.pool.scrub.row.val % 65536 = s.pool.scrub.row.val := Nat.mod_eq_of_lt s.pool.scrub.row.isLt
  have hbank : s.pool.scrub.bank.val % 256 = s.pool.scrub.bank.val := Nat.mod_eq_of_lt s.pool.scrub.bank.isLt
  have hpass : s.pool.scrub.pass.toNat % 4294967296 = s.pool.scrub.pass.toNat := Nat.mod_eq_of_lt s.pool.scrub.pass.isLt
  have hoverflow : bit s.host.events.overflow % 256 = bit s.host.events.overflow := by
    cases s.host.events.overflow <;> rfl
  have hfree : s.pool.freeSpareCount % 65536 = s.pool.freeSpareCount := Nat.mod_eq_of_lt s.pool.freeSpareCount_lt
  simp [statusHead, fieldAt_append_left, fieldAt_append_right, fieldAt_natToBytes, hstate, hoccupied, hchannels, hstride,
    hrow, hbank, hpass, hoverflow, hfree]

theorem MigSlot.fieldAt_statusBytes (m : MigSlot) : fieldAt m.statusBytes 0 2 = m.bank.val
    ∧ fieldAt m.statusBytes 2 2 = m.row.val ∧ fieldAt m.statusBytes 4 1 = m.cursor % 256
    ∧ fieldAt m.statusBytes 5 1 = m.attempt % 256 ∧ fieldAt m.statusBytes 6 1 = m.target.val
    ∧ fieldAt m.statusBytes 7 1 = 0 := by
  have hbank : m.bank.val % 65536 = m.bank.val := Nat.mod_eq_of_lt (by omega)
  have hrow : m.row.val % 65536 = m.row.val := Nat.mod_eq_of_lt m.row.isLt
  have htarget : m.target.val % 256 = m.target.val := Nat.mod_eq_of_lt (by omega)
  simp [MigSlot.statusBytes, fieldAt_append_left, fieldAt_append_right, fieldAt_natToBytes, hbank, hrow, htarget]

theorem exec_statusRead {s : State} {id : BitVec 16} {host : Nat}
    (hconfig : s.host.config = .executing id (.statusRead host) none) : exec .statusRead s =
      if s.host.port.windowLow.toNat ≤ host ∧ host + 63 ≤ s.host.port.windowHigh.toNat then
        .next (s.setHost ((s.host.setOut (s.host.out ++ [.write host (statusBlock s)])).completeCommand id .ok 0))
      else .next (s.setHost (s.host.completeCommand id .hostAccess 0)) := by
  show execStatusRead s = _
  have hlength : host + (statusBlock s).length - 1 = host + 63 := by rw [length_statusBlock]; rfl
  by_cases hin : s.host.port.windowLow.toNat ≤ host ∧ host + 63 ≤ s.host.port.windowHigh.toNat
  · simp only [execStatusRead, hconfig, HostSide.postWrite_inside (hlength.symm ▸ hin), if_pos hin]
  · simp only [execStatusRead, hconfig, HostSide.postWrite_outside (hlength.symm ▸ hin), if_neg hin]

end Sys2Proof.Machine

open Sys2Proof Sys2Proof.Machine

/-- Settles O56: a read command posts the entries of its snapshot one place after another, or none; the entries and the
block are laid out field by field, the migration records at 24 + 8 i and zeros after the last. -/
theorem snapshotsAndStatus : Obligations.SnapshotsAndStatus := by
  intro s id capacity host low high reads block migrations at_
  have hreads (cmd : ConfigCmd) (row : Instr) (snap : List (List Byte)) (place : Nat) (hplace : 0 < place)
      (hlength : ∀ e ∈ snap, e.length = place) (hexec : s.host.config = .executing id cmd none →
        exec row s = .next (s.setHost (s.host.writeOut id snap capacity host))) : reads cmd row snap place :=
    fun hconfig => ⟨fun hin => by rw [hexec hconfig, HostSide.writeOut_inside hplace hlength hin],
      fun hsome hout => by rw [hexec hconfig, HostSide.writeOut_outside hlength hsome hout]⟩
  have hat (off n : Nat) : at_ off n = fieldAt block off n := rfl
  have hhead {off n : Nat} (h : off + n ≤ 24) : at_ off n = fieldAt (statusHead s) off n := fieldAt_statusBlock_head s h
  obtain ⟨hstate, hoccupied, hchannels, hstride, hrow, hbank, hzero, hpass, hqueue, hentries, hoverflow, hzero', htable,
    hfree⟩ := fieldAt_statusHead s
  refine ⟨?mapRead, ?mapEntries, ?mapOrder, ?healthRead, fun e => ?healthEntry, fun hconfig => ?statusRead, ?length,
    ?state, fun c => ?failed, ?stride, ?row, ?bank, ?pass, ?overflow, ?occupied, ?zero, ?queue, ?entries, ?zero', ?table,
    ?free, fun i m hm => ?record, fun i hle _ => ?noRecord, ?tail⟩
  case mapRead => exact hreads _ _ _ 8 (by decide) (fun _ => PoolSide.length_of_mem_mapSnapshot) exec_mapRead
  case mapEntries => exact s.pool.mem_mapSnapshot
  case mapOrder => exact s.pool.mapSnapshot_sorted
  case healthRead =>
    refine hreads _ _ _ 16 (by decide) (fun bytes hbytes => ?_) exec_healthRead
    obtain ⟨e, _, rfl⟩ := List.mem_map.mp hbytes
    exact length_healthEntryBytes e
  case length => exact length_statusBlock s
  case state => rw [hhead (by decide), hstate]
  case stride => rw [hhead (by decide), hstride]
  case row => rw [hhead (by decide), hrow]
  case bank => rw [hhead (by decide), hbank]
  case pass => rw [hhead (by decide), hpass]
  case overflow => rw [hhead (by decide), hoverflow, bit]
  case occupied => rw [hhead (by decide), hoccupied]; rfl
  case zero => rw [hhead (by decide), hzero]
  case queue => rw [hhead (by decide), hqueue]
  case entries => rw [hhead (by decide), hentries]
  case zero' => rw [hhead (by decide), hzero']
  case table => rw [hhead (by decide), htable]
  case free => rw [hhead (by decide), hfree, PoolSide.freeSpareCount_eq]
  case noRecord => exact fieldAt_statusBlock_zeros s 8 (Nat.add_le_add_left (Nat.mul_le_mul_left 8 hle) 24)
  case tail =>
    have hle : 24 + 8 * s.pool.migration.occupied.length ≤ 56 := by
      have := s.pool.migration.length_occupied_le
      omega
    rw [hat 56 8]
    exact fieldAt_statusBlock_zeros s 8 hle
  case healthEntry => exact ⟨length_healthEntryBytes e, fieldAt_healthEntryBytes e⟩
  case statusRead =>
    exact ⟨fun hin => (exec_statusRead hconfig).trans (if_pos hin),
      fun hout => (exec_statusRead hconfig).trans (if_neg hout)⟩
  case failed =>
    rw [hhead (by decide), hchannels]
    exact s.pool.testBit_channelBits c
  case record =>
    obtain ⟨hb, hr, hcursor, hattempt, htarget, hend⟩ := m.fieldAt_statusBytes
    have hplace {place off n : Nat} (h : place = 24 + 8 * i + off) (hoff : off + n ≤ 8) :
        at_ place n = fieldAt m.statusBytes off n := fieldAt_statusBlock_record hm h hoff
    exact ⟨(hplace (off := 0) rfl (by decide)).trans hb, (hplace (off := 2) (by omega) (by decide)).trans hr,
      (hplace (off := 4) (by omega) (by decide)).trans hcursor,
      (hplace (off := 5) (by omega) (by decide)).trans hattempt,
      (hplace (off := 6) (by omega) (by decide)).trans htarget, (hplace (off := 7) (by omega) (by decide)).trans hend⟩
end

section
/-! PROOF. MAP LOAD (chapter 3): the reads of its image, its validation entry by entry, and the spares that a valid image
leaves. -/

namespace Sys2Proof.Machine

/-! ## The reads asked for (R52, R198) -/

/-- Reads as the host port holds them, with numbers from `n` on. -/
def numberedReads (n : Nat) (reads : List (Owner × Nat × Nat)) : List HostRead :=
  reads.mapIdx fun j z => { id := n + j, owner := z.1, addr := z.2.1, len := z.2.2 }

theorem numberedReads_cons (n : Nat) (z : Owner × Nat × Nat) (reads : List (Owner × Nat × Nat)) :
    numberedReads n (z :: reads) =
      { id := n, owner := z.1, addr := z.2.1, len := z.2.2 } :: numberedReads (n + 1) reads := by
  simp only [numberedReads, List.mapIdx_cons, Nat.add_zero, Nat.add_assoc, Nat.add_comm 1]

theorem readMsgs_eq (n : Nat) (reads : List (Owner × Nat × Nat)) :
    readMsgs n reads = (numberedReads n reads).map fun z => .read z.id z.addr z.len := by
  induction reads generalizing n with
  | nil => rfl
  | cons z reads ih => rw [readMsgs_cons, numberedReads_cons, List.map_cons, ih]

/-- The reads at the host port: those sent, then those that wait. -/
def HostPort.reads (p : HostPort) : List HostRead := p.sent.map (·.read) ++ p.waiting

/-- A read that finds a place free finds none waiting. -/
theorem HostSide.placeRead_reads {h : HostSide} (hp : h.port.placesSafe) (o : Owner) (addr len : Nat) :
    (h.placeRead o addr len).port.reads =
      h.port.reads ++ [{ id := h.port.nextRead, owner := o, addr := addr, len := len }] := by
  unfold HostSide.placeRead
  dsimp only
  split
  case isTrue hroom =>
    have hnone : h.port.waiting = [] := by
      by_contra hsome
      exact Nat.ne_of_lt hroom (hp.2 hsome)
    simp [HostPort.reads, hnone]
  case isFalse => simp [HostPort.reads]

theorem HostSide.askReads_reads {reads : List (Owner × Nat × Nat)} {h : HostSide}
    (hin : ∀ x ∈ reads, h.port.inWindow x.2.1 x.2.2 = true) (hp : h.port.placesSafe) :
    (h.askReads reads).1.port.reads = h.port.reads ++ numberedReads h.port.nextRead reads := by
  induction reads generalizing h with
  | nil => exact (List.append_nil _).symm
  | cons x reads ih =>
    obtain ⟨o, addr, len⟩ := x
    obtain ⟨hx, hrest⟩ := List.forall_mem_cons.mp hin
    rw [HostSide.askReads, if_pos hx, ih (h := h.placeRead o addr len)
      (fun y hy => by rw [HostSide.placeRead_window]; exact hrest y hy) (HostSide.placeRead_placesSafe hp o addr len),
      HostSide.placeRead_reads hp, HostSide.placeRead_nextRead, numberedReads_cons, List.append_assoc]
    rfl

/-- Each read of an image lies in its 8 bytes an entry, and is one that the host port may send. -/
theorem imageReads_allowed {n host : Nat} {z : Owner × Nat × Nat} (hz : z ∈ imageReads n host) :
    allowedRead z.2.1 z.2.2 ∧ host ≤ z.2.1 ∧ z.2.1 + z.2.2 ≤ host + 8 * n := by
  obtain ⟨y, hy, rfl⟩ := List.mem_map.mp hz
  exact splitReads_allowed hy

theorem imageReads_inWindow {p : HostPort} {n host : Nat} (hlow : p.windowLow.toNat ≤ host)
    (hhigh : host + 8 * n - 1 ≤ p.windowHigh.toNat) : ∀ z ∈ imageReads n host, p.inWindow z.2.1 z.2.2 = true := by
  intro z hz
  obtain ⟨_, hfrom, hto⟩ := imageReads_allowed hz
  exact (p.inWindow_iff _ _).mpr ⟨by omega, by omega⟩

/-! ## The command -/

theorem exec_mapLoad {s : State} {id : BitVec 16} {n host : Nat}
    (hconfig : s.host.config = .executing id (.mapLoad n host) none) : exec .mapLoad s =
      if s.pool.control.state ≠ .offline then .next (s.setHost (s.host.completeCommand id .wrongState 0))
      else if 8192 < n then .next (s.setHost (s.host.completeCommand id .badParameter 0))
      else .next (s.beginLoad id n host) := by
  show execMapLoad s = _
  rw [execMapLoad, hconfig]

/-- The configuration unit waits for the image of its command. -/
abbrev HostSide.awaitImage (h : HostSide) (id : BitVec 16) (n host : Nat) : HostSide :=
  h.setConfig (.executing id (.mapLoad n host) (some []))

theorem State.beginLoad_inside {s : State} {n host : Nat} (hn : 0 < n)
    (hin : ∀ z ∈ imageReads n host, s.host.port.inWindow z.2.1 z.2.2 = true) (id : BitVec 16) :
    s.beginLoad id n host = s.setHost ((s.host.awaitImage id n host).askReads (imageReads n host)).1 := by
  have hok := (HostSide.askReads_inside (h := s.host.awaitImage id n host) hin).1
  rw [State.beginLoad, if_neg (Nat.ne_of_gt hn)]
  split
  · next h' he => rw [HostSide.awaitImage, he]
  · next h' he => rw [HostSide.awaitImage, he] at hok; nomatch hok

/-! ## Validation (R53) -/

/-- Entry `i` of an image is invalid after those before it. -/
def invalidAt (es : List MapEntry) (i : Nat) : Prop :=
  ∃ e, es[i]? = some e ∧ e.invalid (es.take i).reverse = true

theorem mem_take_iff {α : Type} (xs : List α) (i : Nat) (x : α) : x ∈ (xs.take i).reverse ↔ ∃ j, j < i ∧ xs[j]? = some x := by
  rw [List.mem_reverse, List.mem_iff_getElem?]
  constructor
  · rintro ⟨j, hj⟩
    rw [List.getElem?_take] at hj
    split at hj
    case isTrue hlt => exact ⟨j, hlt, hj⟩
    case isFalse => nomatch hj
  · rintro ⟨j, hlt, hj⟩
    exact ⟨j, by rw [List.getElem?_take, if_pos hlt, hj]⟩

theorem MapEntry.invalid_iff (e : MapEntry) (es : List MapEntry) (i : Nat) : e.invalid (es.take i).reverse = true ↔
    255 < e.bank ∨ 65535 < e.row ∨ 31 < e.spare ∨ (e.state ≠ 1 ∧ e.state ≠ 2)
      ∨ (∃ j f, j < i ∧ es[j]? = some f ∧ f.bank = e.bank ∧ f.spare = e.spare)
      ∨ (e.state = 1 ∧ ∃ j f, j < i ∧ es[j]? = some f ∧ f.state = 1 ∧ f.bank = e.bank ∧ f.row = e.row) := by
  have hany (p : MapEntry → Bool) : (es.take i).reverse.any p = true ↔ ∃ j f, j < i ∧ es[j]? = some f ∧ p f = true := by
    simp only [List.any_eq_true, mem_take_iff]
    exact ⟨fun ⟨f, ⟨j, hj, hf⟩, hp⟩ => ⟨j, f, hj, hf, hp⟩, fun ⟨j, f, hj, hf, hp⟩ => ⟨f, ⟨j, hj, hf⟩, hp⟩⟩
  simp only [MapEntry.invalid, Bool.or_eq_true, Bool.and_eq_true, decide_eq_true_iff, hany, or_assoc, and_assoc]

theorem firstInvalid_split {older younger : List MapEntry} {e : MapEntry} :
    firstInvalid older.reverse (e :: younger) =
      if e.invalid older.reverse then some older.length else firstInvalid (older ++ [e]).reverse younger := by
  rw [firstInvalid, List.length_reverse, List.reverse_append]
  rfl

theorem firstInvalid_eq_some {es : List MapEntry} {i : Nat} (hi : invalidAt es i) (hfirst : ∀ j, j < i → ¬invalidAt es j)
    {older younger : List MapEntry} (hes : es = older ++ younger) (hle : older.length ≤ i) :
    firstInvalid older.reverse younger = some i := by
  induction younger generalizing older with
  | nil =>
    obtain ⟨e, he, _⟩ := hi
    have hlt := (List.getElem?_eq_some_iff.mp he).1
    rw [hes, List.append_nil] at hlt
    omega
  | cons e younger ih =>
    have he : es[older.length]? = some e := by rw [hes]; simp
    have hold : es.take older.length = older := by rw [hes, List.take_left]
    rw [firstInvalid_split]
    split
    case isTrue hbad =>
      rcases Nat.lt_or_eq_of_le hle with hlt | heq
      · exact absurd ⟨e, he, hold.symm ▸ hbad⟩ (hfirst _ hlt)
      · rw [heq]
    case isFalse hgood =>
      have hne : older.length ≠ i := by
        rintro rfl
        obtain ⟨f, hf, hbad⟩ := hi
        obtain rfl : e = f := Option.some.inj (he.symm.trans hf)
        exact hgood (hold ▸ hbad)
      refine ih (by rw [hes, List.append_assoc]; rfl) ?_
      rw [List.length_append, List.length_singleton]
      omega

theorem firstInvalid_eq_none {es : List MapEntry} (hvalid : ∀ i, ¬invalidAt es i)
    {older younger : List MapEntry} (hes : es = older ++ younger) : firstInvalid older.reverse younger = none := by
  induction younger generalizing older with
  | nil => rfl
  | cons e younger ih =>
    have he : es[older.length]? = some e := by rw [hes]; simp
    have hold : es.take older.length = older := by rw [hes, List.take_left]
    rw [firstInvalid_split, if_neg fun hbad => hvalid _ ⟨e, he, hold.symm ▸ hbad⟩]
    exact ih (by rw [hes, List.append_assoc]; rfl)

/-! ## The spares of a valid image (R54) -/

/-- The spare that an entry names. -/
def MapEntry.names (e : MapEntry) (b : BankNo) (i : SpareNo) : Prop := b = Fin.ofNat 256 e.bank ∧ i = Fin.ofNat 32 e.spare

/-- What an entry makes of the spare it names. -/
def MapEntry.spareValue (e : MapEntry) : Spare := if e.state = 1 then .active (Fin.ofNat 65536 e.row) else .retired

theorem applyEntry_names {e : MapEntry} {b : BankNo} {i : SpareNo} (h : e.names b i)
    (t : Vector (Vector Spare 32) 256) : (applyEntry t e)[b][i] = e.spareValue := by
  obtain ⟨rfl, rfl⟩ := h
  simp [applyEntry, MapEntry.spareValue]

theorem applyEntry_other {e : MapEntry} {b : BankNo} {i : SpareNo} (h : ¬e.names b i)
    (t : Vector (Vector Spare 32) 256) : (applyEntry t e)[b][i] = t[b][i] := by
  rw [applyEntry]
  by_cases hb : b = Fin.ofNat 256 e.bank
  · subst hb
    have hi : e.spare % 32 ≠ i.val := fun hv => h ⟨rfl, (Fin.ext hv).symm⟩
    simp [hi]
  · have hv : e.bank % 256 ≠ b.val := fun hv => hb (Fin.ext hv).symm
    simp [hv]

theorem foldl_applyEntry_other {es : List MapEntry} {b : BankNo} {i : SpareNo} (h : ∀ e ∈ es, ¬e.names b i)
    (t : Vector (Vector Spare 32) 256) : (es.foldl applyEntry t)[b][i] = t[b][i] := by
  induction es generalizing t with
  | nil => rfl
  | cons e es ih =>
    rw [List.foldl_cons, ih fun f hf => h f (List.mem_cons_of_mem _ hf), applyEntry_other (h e List.mem_cons_self)]

theorem loadedSpares_free {es : List MapEntry} {b : BankNo} {i : SpareNo} (h : ∀ e ∈ es, ¬e.names b i) :
    (loadedSpares es)[b][i] = .free := by
  rw [loadedSpares, foldl_applyEntry_other h]
  simp

/-- The last entry that names a spare decides it. -/
theorem loadedSpares_last {older younger : List MapEntry} {e : MapEntry} {b : BankNo} {i : SpareNo} (h : e.names b i)
    (hlast : ∀ f ∈ younger, ¬f.names b i) : (loadedSpares (older ++ e :: younger))[b][i] = e.spareValue := by
  rw [loadedSpares, List.foldl_append, List.foldl_cons, foldl_applyEntry_other hlast, applyEntry_names h]

/-! ## The whole image -/

/-- Its last read ended, the command completes and the read's place is free. -/
theorem HostSide.completeCommand_lastRead {h : HostSide} {x : SentRead} (hsent : h.port.sent = [x])
    (hwaiting : h.port.waiting = []) (id : BitVec 16) (st : Status) (n : Nat) :
    ((h.endRead x.read.id).completeCommand id st n).freePlace x.read.id =
      (h.setPort { h.port with sent := [] }).completeCommand id st n := by
  have hport := (h.endRead x.read.id).completeCommand_port id st n
  have hnone : (h.endRead x.read.id).port.sent.filter (fun r => r.read.id != x.read.id) = [] := by
    simp [HostSide.endRead, hsent]
  rw [HostSide.freePlace_none (by rw [hport]; exact hwaiting), hport, hnone]
  have hunseen := (HostSide.setSent_unseen []).handOver ((h.endRead x.read.id).setConfig .idle) (commandCompletion id st n)
  rw [HostSide.handOver_port] at hunseen
  exact hunseen.symm

theorem State.imageData_whole {s : State} {id : BitVec 16} {n host : Nat}
    (hconfig : s.host.config = .executing id (.mapLoad n host) (some []))
    (hnone : s.host.port.outstanding Owner.isImage = false) (bytes : List Byte) :
    s.imageData 0 bytes = s.loadMap id (mapEntries n bytes) := by
  have hbytes : pieceBytes (insertPiece { offset := 0, bytes := bytes } []) = bytes := by simp [insertPiece, pieceBytes]
  simp only [State.imageData, hconfig, hnone, hbytes, Bool.false_eq_true, if_false]

theorem State.loadMap_invalid {es : List MapEntry} {i : Nat} (h : firstInvalid [] es = some i) (s : State) (id : BitVec 16) :
    s.loadMap id es = s.setHost (s.host.completeCommand id .mapInvalid i) := by
  rw [State.loadMap, h]

theorem State.loadMap_valid {es : List MapEntry} (h : firstInvalid [] es = none) (s : State) (id : BitVec 16) :
    s.loadMap id es =
      (s.setPool (s.pool.setSpares (loadedSpares es))).setHost (s.host.completeCommand id .ok es.length) := by
  rw [State.loadMap, h]

section
variable {s : State} {id : BitVec 16} {n host : Nat} {r : HostRead} {bytes : List Byte}
  (hconfig : s.host.config = .executing id (.mapLoad n host) (some []))
  (hsent : s.host.port.sent = [{ read := r, abandoned := false, bytes := List.replicate (8 * n) none }])
  (hwaiting : s.host.port.waiting = []) (howner : r.owner = .image 0) (hlength : bytes.length = 8 * n)
include hconfig hsent hwaiting howner hlength

/-- The image arrives in one answer: it is examined, and the place of its read is free at the end. -/
theorem exec_imageAnswer : exec (.hostReadAnswer r.id (.data 0 bytes)) s =
    let t := (s.setHost (s.host.endRead r.id)).loadMap id (mapEntries n bytes)
    .next (t.setHost (t.host.freePlace r.id)) := by
  have hread : s.host.port.sentRead? r.id =
      some { read := r, abandoned := false, bytes := List.replicate (8 * n) none } := by
    simp [HostPort.sentRead?, hsent]
  have hnone : (s.host.endRead r.id).port.outstanding Owner.isImage = false := by
    simp [HostPort.outstanding, HostSide.endRead, hsent, hwaiting]
  rw [exec_hostReadAnswer hread, State.answerData_whole rfl (by simpa using hlength)]
  simp only [howner, State.readDone]
  rw [State.imageData_whole (s := s.setHost (s.host.endRead r.id)) hconfig hnone]

theorem exec_imageAnswer_invalid {i : Nat} (h : firstInvalid [] (mapEntries n bytes) = some i) :
    exec (.hostReadAnswer r.id (.data 0 bytes)) s =
      .next (s.setHost ((s.host.setPort { s.host.port with sent := [] }).completeCommand id .mapInvalid i)) := by
  rw [exec_imageAnswer hconfig hsent hwaiting howner hlength, State.loadMap_invalid h]
  exact congrArg (fun x => Host.Outcome.next (s.setHost x)) (HostSide.completeCommand_lastRead hsent hwaiting id _ _)

theorem exec_imageAnswer_valid (h : firstInvalid [] (mapEntries n bytes) = none) :
    exec (.hostReadAnswer r.id (.data 0 bytes)) s =
      .next ((s.setPool (s.pool.setSpares (loadedSpares (mapEntries n bytes)))).setHost
        ((s.host.setPort { s.host.port with sent := [] }).completeCommand id .ok n)) := by
  rw [exec_imageAnswer hconfig hsent hwaiting howner hlength, State.loadMap_valid h, length_mapEntries]
  exact congrArg
    (fun x => Host.Outcome.next ((s.setPool (s.pool.setSpares (loadedSpares (mapEntries n bytes)))).setHost x))
    (HostSide.completeCommand_lastRead hsent hwaiting id _ _)
end

/-! ## Valid images -/

section
variable {es : List MapEntry} (hvalid : ∀ i, ¬invalidAt es i)
include hvalid

theorem entry_inRange {e : MapEntry} (he : e ∈ es) :
    e.bank ≤ 255 ∧ e.row ≤ 65535 ∧ e.spare ≤ 31 ∧ (e.state = 1 ∨ e.state = 2) := by
  obtain ⟨i, hi⟩ := List.mem_iff_getElem?.mp he
  have hgood : ¬_ := fun h => hvalid i ⟨e, hi, (e.invalid_iff es i).mpr h⟩
  simp only [not_or] at hgood
  obtain ⟨hbank, hrow, hspare, hstate, _⟩ := hgood
  omega

/-- In a valid image an entry decides the spare that it names. -/
theorem loadedSpares_entry {e : MapEntry} (he : e ∈ es) {b : BankNo} {i : SpareNo} (hb : b.val = e.bank)
    (hi : i.val = e.spare) : (loadedSpares es)[b][i] = e.spareValue := by
  obtain ⟨older, younger, rfl⟩ := List.append_of_mem he
  refine loadedSpares_last ⟨by rw [← hb, Fin.ofNat_val_eq_self], by rw [← hi, Fin.ofNat_val_eq_self]⟩ fun f hf hnames => ?_
  obtain ⟨hfb, hfi⟩ := hnames
  obtain ⟨hbank, _, hspare, _⟩ := entry_inRange hvalid (List.mem_append_right older (List.mem_cons_of_mem e hf))
  have hfbank : e.bank = f.bank := by
    rw [← hb, hfb, Fin.val_ofNat, Nat.mod_eq_of_lt (by omega)]
  have hfspare : e.spare = f.spare := by
    rw [← hi, hfi, Fin.val_ofNat, Nat.mod_eq_of_lt (by omega)]
  obtain ⟨k, hk⟩ := List.mem_iff_getElem?.mp hf
  have hat : (older ++ e :: younger)[older.length + (k + 1)]? = some f := by
    rw [List.getElem?_append_right (Nat.le_add_right _ _), Nat.add_sub_cancel_left, List.getElem?_cons_succ, hk]
  refine hvalid _ ⟨f, hat, (f.invalid_iff _ _).mpr (.inr (.inr (.inr (.inr (.inl ⟨older.length, e, by omega, ?_, hfbank,
    hfspare⟩)))))⟩
  simp
end

theorem loadedSpares_unnamed {es : List MapEntry} (hvalid : ∀ i, ¬invalidAt es i) {b : BankNo} {i : SpareNo}
    (h : ∀ e ∈ es, ¬(e.bank = b.val ∧ e.spare = i.val)) : (loadedSpares es)[b][i] = .free := by
  refine loadedSpares_free fun e he hnames => h e he ?_
  obtain ⟨rfl, rfl⟩ := hnames
  obtain ⟨hbank, _, hspare, _⟩ := entry_inRange hvalid he
  rw [Fin.val_ofNat, Fin.val_ofNat, Nat.mod_eq_of_lt (by omega), Nat.mod_eq_of_lt (by omega)]
  exact ⟨rfl, rfl⟩

end Sys2Proof.Machine

open Sys2Proof Sys2Proof.Machine

/-- Settles O57: the reads cover the image in order; the image is examined entry by entry, and in a valid one each spare
is named at most once, so that its entry decides it. -/
theorem mapLoading : Obligations.MapLoading := by
  intro s id n host
  refine ⟨fun hconfig => ?command, ?reads, fun r bytes hconfig hn hsent hwaiting howner hlength => ?answer⟩
  case command =>
    have hexec := exec_mapLoad hconfig
    refine ⟨fun hstate => hexec.trans (if_pos hstate), fun hstate hlarge => ?tooLarge, fun hstate hzero => ?empty,
      fun hstate hn hfits hlow hhigh => ?asked⟩
    case tooLarge => exact (hexec.trans (if_neg (not_not.mpr hstate))).trans (if_pos hlarge)
    case empty =>
      rw [if_neg (not_not.mpr hstate), if_neg (by omega), State.beginLoad, if_pos hzero,
        State.loadMap_valid (es := []) rfl] at hexec
      refine ⟨_, hexec, rfl, fun b i => ?_, rfl⟩
      exact loadedSpares_free (es := []) (fun _ h => absurd h List.not_mem_nil)
    case asked =>
      intro reads
      have hin := imageReads_inWindow hlow hhigh
      rw [if_neg (not_not.mpr hstate), if_neg (Nat.not_lt.mpr hfits), State.beginLoad_inside hn hin] at hexec
      obtain ⟨o, p, hasked⟩ := HostSide.askReads_eq (imageReads n host) (s.host.awaitImage id n host)
      refine ⟨_, hexec, ?config, rfl, ?engine, ?tracker, ?events, ?nextRead,
        fun hp => HostSide.askReads_reads hin hp, fun hroom => ?sent⟩
      case nextRead =>
        rw [List.length_mapIdx]
        exact (HostSide.askReads_inside (h := s.host.awaitImage id n host) hin).2
      case sent =>
        rw [List.length_mapIdx] at hroom
        rw [State.setHost_host, HostSide.askReads_room (h := s.host.awaitImage id n host) hin hroom]
        exact congrArg (s.host.out ++ ·) (readMsgs_eq _ _)
      case config | engine | tracker | events => rw [State.setHost_host, hasked]; rfl
  case reads =>
    exact ⟨(addresses_of_reads _ Owner.image).trans (splitReads_addresses (Nat.le_refl _)),
      fun z hz => (imageReads_allowed hz).1,
      fun older z younger hz => owner_of_offsets (splitReads_offsets _ _ 0 _) Owner.image hz⟩
  case answer =>
    intro es h bad
    have hbad (i : Nat) : bad i ↔ invalidAt es i :=
      exists_congr fun e => and_congr_right fun _ => (e.invalid_iff es i).symm
    refine ⟨length_mapEntries n bytes, fun i hi hfirst => ?invalid, fun hgood => ?valid⟩
    case invalid =>
      exact exec_imageAnswer_invalid hconfig hsent hwaiting howner hlength (firstInvalid_eq_some (older := [])
        ((hbad i).mp hi) (fun j hj => mt (hbad j).mpr (hfirst j hj)) rfl (Nat.zero_le i))
    case valid =>
      have hvalid (i : Nat) : ¬invalidAt es i := mt (hbad i).mpr (hgood i)
      refine ⟨_, exec_imageAnswer_valid hconfig hsent hwaiting howner hlength (firstInvalid_eq_none (older := []) hvalid rfl),
        rfl, rfl, fun e he b i hb hi => ?named, fun b i hnone => loadedSpares_unnamed hvalid hnone⟩
      have hspare : (loadedSpares es)[b][i] = e.spareValue := loadedSpares_entry hvalid he hb hi
      obtain ⟨_, hrow, _, _⟩ := entry_inRange hvalid he
      refine ⟨fun hactive => ⟨Fin.ofNat 65536 e.row, ?_, ?_⟩, fun hretired => ?_⟩
      · exact Nat.mod_eq_of_lt (by omega)
      · exact hspare.trans (if_pos hactive)
      · exact hspare.trans (if_neg (by omega))
end

section
/-! PROOF. QUEUE DELETE (chapters 7 and 9): its checks in order, a ring removed at once, and the drain of a request ring
with and without an abort. -/

namespace Sys2Proof.Machine

/-! ## The checks (R175) -/

theorem HostSide.deleteRefusal?_of_no_ring (h : HostSide) {kind num : Nat}
    (hnone : kind ∉ [1, 2] ∨ num < 1 ∨ 31 < num) : h.deleteRefusal? kind num = some .badQueue := by
  rw [List.mem_pair, not_or] at hnone
  unfold HostSide.deleteRefusal?
  split
  case isTrue => rfl
  case isFalse hkind => exact if_pos (hnone.resolve_left hkind)

theorem HostSide.deleteRefusal?_request (h : HostSide) {n : RingId} (hn : 0 < n) :
    h.deleteRefusal? 1 n.val = if (h.rq n).state = .absent then some .badQueue else none := by
  have hid : ¬(n.val < 1 ∨ 31 < n.val) := not_or.mpr ⟨Nat.not_lt.mpr hn, Nat.not_lt.mpr (Nat.le_of_lt_succ n.isLt)⟩
  rw [HostSide.deleteRefusal?, if_neg (by decide), if_neg hid, Fin.ofNat_val_eq_self]
  simp [HostSide.ringPresent]

theorem HostSide.deleteRefusal?_completion (h : HostSide) {n : RingId} (hn : 0 < n) :
    h.deleteRefusal? 2 n.val = if (h.cq n).state = .absent then some .badQueue
      else if 0 < (h.cq n).bound then some .inUse else none := by
  have hid : ¬(n.val < 1 ∨ 31 < n.val) := not_or.mpr ⟨Nat.not_lt.mpr hn, Nat.not_lt.mpr (Nat.le_of_lt_succ n.isLt)⟩
  rw [HostSide.deleteRefusal?, if_neg (by decide), if_neg hid, Fin.ofNat_val_eq_self]
  simp [HostSide.ringPresent]

section
variable {s : State} {id : BitVec 16} {abort : Bool}

theorem exec_queueDelete_refused {kind num : Nat} {st : Status}
    (hconfig : s.host.config = .executing id (.queueDelete kind num abort) none)
    (hst : s.host.deleteRefusal? kind num = some st) :
    exec .queueDelete s = .next (s.setHost (s.host.completeCommand id st 0)) := by
  show execQueueDelete s = _
  simp only [execQueueDelete, hconfig, HostSide.queueDelete, hst]

theorem exec_queueDelete_completion {n : RingId}
    (hconfig : s.host.config = .executing id (.queueDelete 2 n.val abort) none)
    (hpass : s.host.deleteRefusal? 2 n.val = none) :
    exec .queueDelete s = .next (s.setHost ((s.host.setCq n Cq.absent).completeCommand id .ok 0)) := by
  show execQueueDelete s = _
  simp only [execQueueDelete, hconfig, HostSide.queueDelete, hpass, Fin.ofNat_val_eq_self]
  rfl

theorem exec_queueDelete_request {n : RingId}
    (hconfig : s.host.config = .executing id (.queueDelete 1 n.val abort) none)
    (hpass : s.host.deleteRefusal? 1 n.val = none) :
    exec .queueDelete s = .next (s.setHost (s.host.beginDrain id n abort)) := by
  show execQueueDelete s = _
  simp only [execQueueDelete, hconfig, HostSide.queueDelete, hpass, Fin.ofNat_val_eq_self]
  rfl
end

/-! ## The end of a drain (R143, R176) -/

/-- No record of a fetch of the ring is left to hand over. -/
def HostSide.unreserved (h : HostSide) (n : RingId) : Prop :=
  ∀ f, h.engine.fetch = some f → f.ring = n → f.recs = []

theorem HostSide.drained_iff (h : HostSide) (n : RingId) :
    h.drained n = true ↔ (∀ x ∈ h.tracker.slots, x.ring ≠ n) ∧ h.unreserved n := by
  simp only [HostSide.drained, HostSide.unreserved, Bool.and_eq_true, Bool.not_eq_true', List.any_eq_false, beq_iff_eq]
  cases h.engine.fetch with
  | none => simp
  | some f =>
    simp only [Option.some.injEq, forall_eq']
    simp [imp_iff_not_or]

/-- The ring goes, and the command completes with the number of slots aborted. -/
def HostSide.drainEnd (h : HostSide) (id : BitVec 16) (n : RingId) (count : Nat) : HostSide :=
  (h.removeRq n).completeCommand id .ok count

section
variable {h : HostSide} {id : BitVec 16} {n : RingId} {count : Nat} (hconfig : h.config = .drainWait id n count)
include hconfig

theorem HostSide.endDrain_ends (hslots : ∀ x ∈ h.tracker.slots, x.ring ≠ n) (hfree : h.unreserved n) :
    h.endDrain = h.drainEnd id n count := by
  rw [HostSide.endDrain, hconfig]
  exact if_pos ((h.drained_iff n).mpr ⟨hslots, hfree⟩)

theorem HostSide.endDrain_waits (hleft : (∃ x ∈ h.tracker.slots, x.ring = n) ∨ ¬h.unreserved n) : h.endDrain = h := by
  rw [HostSide.endDrain, hconfig]
  refine if_neg fun hdrained => ?_
  obtain ⟨hslots, hfree⟩ := (h.drained_iff n).mp hdrained
  rcases hleft with ⟨x, hx, hring⟩ | hreserved
  · exact hslots x hx hring
  · exact hreserved hfree
end

/-- With no slot that has ended, only the drain is looked at. -/
theorem HostSide.settle_noneReady {h : HostSide}
    (hnone : ∀ x ∈ h.tracker.slots, x.state ≠ .completing ∧ (x.state = .awaiting → x.ended ≠ x.issued)) :
    h.settle = h.endDrain := by
  have hfind : h.tracker.slots.find? h.slotReady = none := by
    refine List.find?_eq_none.mpr fun x hx hready => ?_
    obtain ⟨hcompleting, hawaiting⟩ := hnone x hx
    simp only [HostSide.slotReady, Bool.or_eq_true, Bool.and_eq_true, beq_iff_eq] at hready
    rcases hready with ⟨⟨hstate, hended⟩, _⟩ | hstate
    · exact hawaiting hstate hended
    · exact hcompleting hstate
  rw [HostSide.settle]
  cases h.tracker.slots.length with
  | zero => rfl
  | succ k => rw [HostSide.settleSlots, hfind]

section
variable {h : HostSide} {id : BitVec 16} {n : RingId} {count : Nat} (hconfig : h.config = .drainWait id n count)
  (hnone : ∀ x ∈ h.tracker.slots, x.state ≠ .completing ∧ (x.state = .awaiting → x.ended ≠ x.issued))
include hconfig hnone

theorem HostSide.settle_drainEnds (hslots : ∀ x ∈ h.tracker.slots, x.ring ≠ n) (hfree : h.unreserved n) :
    h.settle = h.drainEnd id n count :=
  (HostSide.settle_noneReady hnone).trans (HostSide.endDrain_ends hconfig hslots hfree)

theorem HostSide.settle_drainWaits (hleft : (∃ x ∈ h.tracker.slots, x.ring = n) ∨ ¬h.unreserved n) : h.settle = h :=
  (HostSide.settle_noneReady hnone).trans (HostSide.endDrain_waits hconfig hleft)
end

/-- The one slot has ended: it completes, and then the drain is looked at. -/
theorem HostSide.settle_lastSlot {h : HostSide} {x : Slot} (hslots : h.tracker.slots = [x]) (hready : h.slotReady x = true) :
    h.settle = ((h.handOver x.completion).setTracker { h.tracker with slots := [] }).endDrain := by
  have hcomplete := HostSide.completeSlot_front hslots fun y hy => absurd hy List.not_mem_nil
  have hone : h.settleSlots 1 = h.completeSlot x := by
    rw [HostSide.settleSlots, hslots]
    simp [hready, HostSide.settleSlots]
  rw [HostSide.settle, hslots]
  change (h.settleSlots 1).endDrain = _
  rw [hone, hcomplete]
  rfl

/-! ## The beginning of a drain (R142, R176) -/

/-- The ring is DRAINING. -/
def HostSide.drain (h : HostSide) (n : RingId) : HostSide := h.setRq n { h.rq n with state := .draining }

theorem HostSide.removeRq_eq (h : HostSide) (n : RingId) : h.removeRq n =
    (h.setCq (h.rq n).cq { h.cq (h.rq n).cq with bound := (h.cq (h.rq n).cq).bound - 1 }).setRq n Rq.absent := rfl

/-- A ring's removal does not see that it was DRAINING before. -/
theorem HostSide.removeRq_drain (h : HostSide) (n : RingId) : (h.drain n).removeRq n = h.removeRq n := by
  rw [HostSide.removeRq_eq, HostSide.removeRq_eq, HostSide.drain, HostSide.rq_setRq_self]
  simp [HostSide.setRq, HostSide.setCq, HostSide.setEngine, HostSide.cq]

theorem HostSide.abandonReads_none (h : HostSide) : h.abandonReads (fun _ => false) = h := by
  simp [HostSide.abandonReads, HostSide.setPort]

section
variable {h : HostSide} {n : RingId}

theorem HostSide.abortRing_none (hnone : ∀ x ∈ h.tracker.slots, x.ring ≠ n) :
    h.abortRing n = h ∧ h.tracker.abortCount n = 0 := by
  have hhit : h.tracker.slots.filter (fun s => s.ring == n && s.state != .completing) = [] :=
    List.filter_eq_nil_iff.mpr fun x hx hring => by simp [hnone x hx] at hring
  have hmap : h.tracker.slots.map (fun s => if s.ring = n then s.abort else s) = h.tracker.slots :=
    (List.map_congr_left fun x hx => if_neg (hnone x hx)).trans (List.map_id _)
  constructor
  · rw [HostSide.abortRing, hhit]
    simp only [List.any_nil, HostSide.abandonReads_none, hmap]
    rfl
  · rw [Tracker.abortCount, hhit]
    rfl

/-- The abort of the one slot of a ring. -/
theorem HostSide.abortRing_single {x : Slot} (hslots : h.tracker.slots = [x]) (hring : x.ring = n)
    (hstate : x.state ≠ .completing) : h.abortRing n = (h.abandonReads (Owner.ofSlot x.num)).setTracker
        { h.tracker with slots := [{ x.stop with aborted := true }] } ∧ h.tracker.abortCount n = 1 := by
  have hhit : h.tracker.slots.filter (fun s => s.ring == n && s.state != .completing) = [x] := by
    simp [hslots, hring, hstate]
  have hmap : h.tracker.slots.map (fun s => if s.ring = n then s.abort else s) = [{ x.stop with aborted := true }] := by
    rw [hslots, List.map_singleton, if_pos hring, Slot.abort, if_neg hstate]
  constructor
  · rw [HostSide.abortRing, hhit]
    simp only [List.any_cons, List.any_nil, Bool.or_false]
    exact congrArg (fun ss => (h.abandonReads (Owner.ofSlot x.num)).setTracker { h.tracker with slots := ss }) hmap
  · rw [Tracker.abortCount, hhit]
    rfl
end

theorem Slot.stop_eq {x : Slot} (h : x.state ≠ .completing) : x.stop =
    { x with state := .awaiting, next := none, held := none, staging := [], copy := { x.copy with kept := [], ready := [] } } := by
  rw [← Slot.stop_state h]
  rfl

/-- An aborted slot's completion. -/
theorem Slot.completion_aborted (x : Slot) :
    ({ x.stop with aborted := true } : Slot).completion = { x.completion with status := .aborted } := by
  simp [Slot.completion, Slot.status, Slot.stop]

theorem HostSide.setConfig_unseen (c : ConfigUnit) : HostSide.Unseen fun h => h.setConfig c :=
  ⟨fun _ => rfl, fun _ => rfl, fun _ => rfl, fun _ _ => rfl, fun _ _ => rfl, fun _ _ => rfl, fun _ _ _ => rfl,
    fun _ _ => rfl, fun _ _ => rfl, fun _ _ => rfl, fun _ _ _ => rfl⟩

/-- The host side waits for the drain of ring `n`. -/
abbrev HostSide.waitDrain (h : HostSide) (id : BitVec 16) (n : RingId) (count : Nat) : HostSide :=
  h.setConfig (.drainWait id n count)

theorem HostSide.drainEnd_waitDrain (h : HostSide) (id : BitVec 16) (n : RingId) (count : Nat) :
    (h.waitDrain id n count).drainEnd id n count = h.drainEnd id n count := rfl

section
variable {h : HostSide} {n : RingId} (id : BitVec 16)

/-- With no slot of the ring there is nothing to abort. -/
theorem HostSide.beginDrain_none (hnone : ∀ x ∈ h.tracker.slots, x.ring ≠ n) (abort : Bool) :
    h.beginDrain id n abort = ((h.drain n).waitDrain id n 0).settle := by
  cases abort with
  | false => rfl
  | true =>
    obtain ⟨hring, hcount⟩ := HostSide.abortRing_none (h := h.drain n) hnone
    change (((h.drain n).abortRing n).setConfig (.drainWait id n ((h.drain n).tracker.abortCount n))).settle = _
    rw [hring, hcount]

/-- The host side with the one slot of a ring aborted, before its end is looked at. -/
def HostSide.abortedOne (h : HostSide) (x : Slot) : HostSide :=
  (h.abandonReads (Owner.ofSlot x.num)).setTracker { h.tracker with slots := [{ x.stop with aborted := true }] }

theorem HostSide.beginDrain_abort {x : Slot} (hslots : h.tracker.slots = [x]) (hring : x.ring = n)
    (hstate : x.state ≠ .completing) :
    h.beginDrain id n true = (((h.drain n).abortedOne x).waitDrain id n 1).settle := by
  obtain ⟨haborted, hcount⟩ := HostSide.abortRing_single (h := h.drain n) hslots hring hstate
  change (((h.drain n).abortRing n).setConfig (.drainWait id n ((h.drain n).tracker.abortCount n))).settle = _
  rw [haborted, hcount]
  rfl

/-- The aborted slot has no operation outstanding: it completes at once, and the deletion with it. -/
theorem HostSide.settle_abortedOne {x : Slot} (hstate : x.state ≠ .completing)
    (hended : x.ended = x.issued) (hfetch : ∀ f, h.engine.fetch = some f → f.ring ≠ n) (count : Nat) :
    let g := (h.abandonReads (Owner.ofSlot x.num)).drain n
    (((h.drain n).abortedOne x).waitDrain id n count).settle =
      ((g.handOver { x.completion with status := .aborted }).setTracker { h.tracker with slots := [] }).drainEnd
        id n count := by
  intro g
  let y : Slot := { x.stop with aborted := true }
  let k := ((h.drain n).abortedOne x).waitDrain id n count
  have houtstanding : k.port.outstanding (Owner.ofSlot x.num) = false :=
    (h.drain n).abandonReads_outstanding_self (Owner.ofSlot x.num)
  have hready : k.slotReady y = true := by
    have hawaiting : y.state = .awaiting := Slot.stop_state hstate
    have hends : y.ended = y.issued := hended
    have hnum : y.num = x.num := rfl
    simp [HostSide.slotReady, hawaiting, hends, hnum, houtstanding]
  have hhanded : (k.handOver y.completion).setTracker { k.tracker with slots := [] } =
      (((g.handOver { x.completion with status := .aborted }).setTracker { h.tracker with slots := [] }).waitDrain id n
        count) := by
    rw [x.completion_aborted, HostSide.handOver_setTracker, HostSide.handOver_setTracker]
    exact (HostSide.setConfig_unseen (.drainWait id n count)).handOver (g.setTracker { h.tracker with slots := [] }) _
  have hunreserved : ((k.handOver y.completion).setTracker { k.tracker with slots := [] }).unreserved n := by
    intro f hf hring
    have hf' : (k.handOver y.completion).engine.fetch = some f := hf
    rw [HostSide.handOver_fetch] at hf'
    exact absurd hring (hfetch f hf')
  rw [HostSide.settle_lastSlot (x := y) rfl hready,
    HostSide.endDrain_ends (HostSide.handOver_config _ _) (fun x hx => absurd hx List.not_mem_nil) hunreserved, hhanded,
    HostSide.drainEnd_waitDrain]

/-- A ring's removal reads its descriptor in the state that it is removed from; a hand-over leaves that descriptor. -/
theorem HostSide.removeRq_handed (g : HostSide) (c : Completion) (t : Tracker) :
    let k := (g.handOver c).setTracker t
    k.removeRq n = (k.setCq (g.rq n).cq { k.cq (g.rq n).cq with bound := (k.cq (g.rq n).cq).bound - 1 }).setRq n Rq.absent := by
  intro k
  have hrq : k.rq n = g.rq n := g.rq_handOver c n
  rw [HostSide.removeRq_eq, hrq]
end

end Sys2Proof.Machine

open Sys2Proof Sys2Proof.Machine

/-- Settles O54: the first check that fails decides the refusal; a drain ends when no slot and no record of the ring is
left, at once or at the end of the last slot, which an abort makes ready when no operation of it is outstanding. -/
theorem queueDeletion : Obligations.QueueDeletion := by
  refine ⟨fun s id kind num abort hconfig hquiet => ?command, fun h id n count hconfig => ?drain⟩
  case command =>
    intro ends
    refine ⟨fun hnone => exec_queueDelete_refused hconfig (s.host.deleteRefusal?_of_no_ring hnone), ?_⟩
    rintro n hn rfl
    have completion (hkind : kind = 2) {st : Status} (h : s.host.deleteRefusal? 2 n.val = some st) :
        ends s.host st := exec_queueDelete_refused hconfig (hkind ▸ h)
    have hcompletion := s.host.deleteRefusal?_completion hn
    have hrequest := s.host.deleteRefusal?_request hn
    have begins (hkind : kind = 1) (hpresent : (s.host.rq n).state ≠ .absent) :
        exec .queueDelete s = .next (s.setHost (s.host.beginDrain id n abort)) :=
      exec_queueDelete_request (hkind ▸ hconfig) (hrequest.trans (if_neg hpresent))
    have hnotCompleting {x : Slot} (hslots : s.host.tracker.slots = [x]) : x.state ≠ .completing :=
      (hquiet.1 x (hslots ▸ List.mem_singleton_self x)).1
    refine ⟨fun hkind habsent => completion hkind (hcompletion.trans (if_pos habsent)),
      fun hkind hpresent hbound => completion hkind ((hcompletion.trans (if_neg hpresent)).trans (if_pos hbound)),
      fun hkind hpresent hbound => ?completionRemoved,
      fun hkind habsent => exec_queueDelete_refused hconfig (hkind ▸ hrequest.trans (if_pos habsent)),
      fun hkind hpresent hnone hfetch => ?requestRemoved, fun hkind hpresent habort hsome => ?drains,
      fun x hkind hpresent habort hslots hring hended hfetch => ?abortEnds,
      fun x hkind hpresent habort hslots hring hended => ?abortWaits⟩
    case completionRemoved =>
      subst hkind
      exact exec_queueDelete_completion hconfig ((hcompletion.trans (if_neg hpresent)).trans (if_neg (by omega)))
    case requestRemoved =>
      intro q
      have hend : s.host.beginDrain id n abort = s.host.drainEnd id n 0 := by
        rw [HostSide.beginDrain_none id hnone,
          HostSide.settle_drainEnds (h := (s.host.drain n).waitDrain id n 0) rfl hquiet.1 hnone (fun f hf hr => absurd hr (hfetch f hf)), HostSide.drainEnd_waitDrain,
          HostSide.drainEnd, HostSide.removeRq_drain]
        rfl
      exact (begins hkind hpresent).trans (congrArg (fun h => Host.Outcome.next (s.setHost h)) hend)
    case drains =>
      subst habort
      refine (begins hkind hpresent).trans (congrArg (fun h => Host.Outcome.next (s.setHost h)) ?_)
      change ((s.host.drain n).waitDrain id n 0).settle = _
      exact HostSide.settle_drainWaits (h := (s.host.drain n).waitDrain id n 0) rfl hquiet.1 (.inl hsome)
    case abortEnds =>
      subst habort
      intro p g h q
      refine (begins hkind hpresent).trans (congrArg (fun h => Host.Outcome.next (s.setHost h)) ?_)
      rw [HostSide.beginDrain_abort id hslots hring (hnotCompleting hslots),
        HostSide.settle_abortedOne id (hnotCompleting hslots) hended hfetch]
      change h.drainEnd id n 1 = _
      have hdraining : g.rq n = { s.host.rq n with state := .draining } := HostSide.rq_setRq_self _ _ _
      rw [HostSide.drainEnd, HostSide.removeRq_handed g, hdraining]
    case abortWaits =>
      subst habort
      have hwaits : s.host.beginDrain id n true = ((s.host.drain n).abortedOne x).waitDrain id n 1 := by
        rw [HostSide.beginDrain_abort id hslots hring (hnotCompleting hslots),
          HostSide.settle_drainWaits rfl ?_ (.inl ⟨{ x.stop with aborted := true }, List.mem_singleton_self _, hring⟩)]
        intro y hy
        obtain rfl := List.mem_singleton.mp hy
        have hawaiting : x.stop.state = .awaiting := Slot.stop_state (hnotCompleting hslots)
        exact ⟨by rw [hawaiting]; decide, fun _ => hended⟩
      refine ⟨_, begins hkind hpresent, ?_⟩
      rw [State.setHost_host, hwaits]
      refine ⟨rfl, ?tracker, rfl, ((s.host.drain n).abandonReads_abandoned _).1, rfl, rfl, rfl⟩
      case tracker =>
        change { s.host.tracker with slots := [{ x.stop with aborted := true }] } = _
        rw [Slot.stop_eq (hnotCompleting hslots)]
  case drain =>
    intro free ends
    refine ⟨fun x hslots hring hstate hended hnone => ?lastSlot, fun hnone => ⟨fun hleft => ?waits, fun hslots hfree => ?ends⟩⟩
    case lastSlot =>
      intro g
      have hready : h.slotReady x = true := by simp [HostSide.slotReady, hstate, hended, hnone]
      have hsettle : h.settle = g.endDrain := HostSide.settle_lastSlot hslots hready
      have hwait : g.config = .drainWait id n count := (h.handOver_config x.completion).trans hconfig
      have hreserved : g.unreserved n ↔ free := by
        change (∀ f, (h.handOver x.completion).engine.fetch = some f → f.ring = n → f.recs = []) ↔ _
        rw [HostSide.handOver_fetch]
      refine ⟨fun hfree => ?_, fun hfree => ?_⟩
      · exact hsettle.trans
          (HostSide.endDrain_ends hwait (fun y hy => absurd hy List.not_mem_nil) (hreserved.mpr hfree))
      · exact hsettle.trans (HostSide.endDrain_waits hwait (.inr (mt hreserved.mp hfree)))
    case waits => exact HostSide.settle_drainWaits hconfig hnone hleft
    case ends => exact HostSide.settle_drainEnds hconfig hnone hslots hfree
end
